-- ==== Sys2Proof/Word.lean ====
section
/-!
DEFINITION. The two word types of FCDEC: a byte of the window and the 16-bit Frame Control word
(spec 00_scope.md rule R6, rule R8).
-/
namespace Sys2Proof

/-- A byte of the window; bit 0 is its least significant bit (rule R8). -/
abbrev Byte := BitVec 8

/-- The Frame Control word `fc`: byte 0 of the window in bits 7:0, byte 1 in bits 15:8 (rule R8). -/
abbrev FcWord := BitVec 16

end Sys2Proof
end

