-- ==== Sys2Proof/Machine/Flags.lean ====
section
/-!
DEFINITION. FCDEC has no flags and no condition codes (spec 10_state.md rule R20). The record's field `flags` is data,
and this file says what becomes of it.
-/
namespace Sys2Proof.Machine

/-- The flags byte passes through whole and uninterpreted (rule R69). -/
def passFlags (fl : BitVec 8) : BitVec 8 := fl

end Sys2Proof.Machine
end

