-- ==== Sys2Proof/Syntax.lean ====
section
/-!
DEFINITION. The types of spec 00_scope.md section 5 (FrameType, FrameSubType, FrameControl, the result),
and the instruction type: one constructor for each row of spec/opcode_table.json.
-/
namespace Sys2Proof

/-- Rule R11: the closed enumeration of frame types; `unknown` is a valid, non-error outcome. -/
inductive FrameType
  | management | control | data | unknown
deriving DecidableEq, Repr, Inhabited

/-- Rule R12: the closed enumeration of exactly 42 sub-types, in the order of rule R58's codes. -/
inductive FrameSubType
  -- Management
  | associationRequest | associationResponse | reassociationRequest | reassociationResponse
  | probeRequest | probeResponse | beacon | atim
  | disassociation | authentication | deauthentication
  -- Control
  | trigger | tack | beamformingReportPoll | ndpAnnouncement
  | controlFrameExtension | controlWrapper | blockAckRequest | blockAck
  | psPoll | rts | cts | ack
  | cfEnd | cfEndCfAck
  -- Data
  | data | dataCfAck | dataCfPoll | dataCfAckCfPoll
  | nullData | cfAck | cfPoll | cfAckCfPoll
  | qos | qosDataCfAck | qosDataCfPoll | qosDataCfAckCfPoll
  | qosNull | qosCfPoll | qosCfAckCfPoll
  -- Sentinels
  | reserved | unHandled
deriving DecidableEq, Repr, Inhabited

/-- Rule R13: the result record. `flags` is data: "bitmask, uninterpreted by this core". -/
structure FrameControl where
  protocolVersion : BitVec 2
  frameType : FrameType
  frameSubtype : FrameSubType
  flags : BitVec 8
deriving DecidableEq, Repr, Inhabited

/-- Rule R128: the one condition FCDEC reports, with no payload. -/
inductive DecodeError
  | insufficientData
deriving DecidableEq, Repr, Inhabited

/-- Rule R14: the result of one invocation: `Ok` with the unconsumed remainder and the record, or `Err`. -/
inductive DecodeResult
  | ok (remaining : List Byte) (record : FrameControl)
  | err (e : DecodeError)
deriving DecidableEq, Repr, Inhabited

/-- One constructor for each row of the opcode table, a cell (type code, sub-type code) of rule R53.
The operands are the fields the row leaves free: `pv` (fc[1:0]), `fl` (fc[15:8]) and, for type 3, `s` (fc[7:4]). -/
inductive Instr
  /-- `MGMT.AssociationRequest`, type 0, sub-type 0 (rule R80). -/
  | mgmtAssociationRequest (pv : BitVec 2) (fl : BitVec 8)
  /-- `MGMT.AssociationResponse`, type 0, sub-type 1 (rule R81). -/
  | mgmtAssociationResponse (pv : BitVec 2) (fl : BitVec 8)
  /-- `MGMT.ReassociationRequest`, type 0, sub-type 2 (rule R82). -/
  | mgmtReassociationRequest (pv : BitVec 2) (fl : BitVec 8)
  /-- `MGMT.ReassociationResponse`, type 0, sub-type 3 (rule R83). -/
  | mgmtReassociationResponse (pv : BitVec 2) (fl : BitVec 8)
  /-- `MGMT.ProbeRequest`, type 0, sub-type 4 (rule R84). -/
  | mgmtProbeRequest (pv : BitVec 2) (fl : BitVec 8)
  /-- `MGMT.ProbeResponse`, type 0, sub-type 5 (rule R85). -/
  | mgmtProbeResponse (pv : BitVec 2) (fl : BitVec 8)
  /-- `MGMT.UnHandled_6`, type 0, sub-type 6 (rule R86). -/
  | mgmtUnHandled6 (pv : BitVec 2) (fl : BitVec 8)
  /-- `MGMT.Reserved_7`, type 0, sub-type 7 (rule R87). -/
  | mgmtReserved7 (pv : BitVec 2) (fl : BitVec 8)
  /-- `MGMT.Beacon`, type 0, sub-type 8 (rule R88). -/
  | mgmtBeacon (pv : BitVec 2) (fl : BitVec 8)
  /-- `MGMT.Atim`, type 0, sub-type 9 (rule R89). -/
  | mgmtAtim (pv : BitVec 2) (fl : BitVec 8)
  /-- `MGMT.Disassociation`, type 0, sub-type 10 (rule R90). -/
  | mgmtDisassociation (pv : BitVec 2) (fl : BitVec 8)
  /-- `MGMT.Authentication`, type 0, sub-type 11 (rule R91). -/
  | mgmtAuthentication (pv : BitVec 2) (fl : BitVec 8)
  /-- `MGMT.Deauthentication`, type 0, sub-type 12 (rule R92). -/
  | mgmtDeauthentication (pv : BitVec 2) (fl : BitVec 8)
  /-- `MGMT.UnHandled_13`, type 0, sub-type 13 (rule R93). -/
  | mgmtUnHandled13 (pv : BitVec 2) (fl : BitVec 8)
  /-- `MGMT.UnHandled_14`, type 0, sub-type 14 (rule R94). -/
  | mgmtUnHandled14 (pv : BitVec 2) (fl : BitVec 8)
  /-- `MGMT.Reserved_15`, type 0, sub-type 15 (rule R95). -/
  | mgmtReserved15 (pv : BitVec 2) (fl : BitVec 8)
  /-- `CTRL.Reserved_0`, type 1, sub-type 0 (rule R96). -/
  | ctrlReserved0 (pv : BitVec 2) (fl : BitVec 8)
  /-- `CTRL.Reserved_1`, type 1, sub-type 1 (rule R97). -/
  | ctrlReserved1 (pv : BitVec 2) (fl : BitVec 8)
  /-- `CTRL.Trigger`, type 1, sub-type 2 (rule R98). -/
  | ctrlTrigger (pv : BitVec 2) (fl : BitVec 8)
  /-- `CTRL.Tack`, type 1, sub-type 3 (rule R99). -/
  | ctrlTack (pv : BitVec 2) (fl : BitVec 8)
  /-- `CTRL.BeamformingReportPoll`, type 1, sub-type 4 (rule R100). -/
  | ctrlBeamformingReportPoll (pv : BitVec 2) (fl : BitVec 8)
  /-- `CTRL.NdpAnnouncement`, type 1, sub-type 5 (rule R101). -/
  | ctrlNdpAnnouncement (pv : BitVec 2) (fl : BitVec 8)
  /-- `CTRL.ControlFrameExtension`, type 1, sub-type 6 (rule R102). -/
  | ctrlControlFrameExtension (pv : BitVec 2) (fl : BitVec 8)
  /-- `CTRL.ControlWrapper`, type 1, sub-type 7 (rule R103). -/
  | ctrlControlWrapper (pv : BitVec 2) (fl : BitVec 8)
  /-- `CTRL.BlockAckRequest`, type 1, sub-type 8 (rule R104). -/
  | ctrlBlockAckRequest (pv : BitVec 2) (fl : BitVec 8)
  /-- `CTRL.BlockAck`, type 1, sub-type 9 (rule R105). -/
  | ctrlBlockAck (pv : BitVec 2) (fl : BitVec 8)
  /-- `CTRL.PsPoll`, type 1, sub-type 10 (rule R106). -/
  | ctrlPsPoll (pv : BitVec 2) (fl : BitVec 8)
  /-- `CTRL.Rts`, type 1, sub-type 11 (rule R107). -/
  | ctrlRts (pv : BitVec 2) (fl : BitVec 8)
  /-- `CTRL.Cts`, type 1, sub-type 12 (rule R108). -/
  | ctrlCts (pv : BitVec 2) (fl : BitVec 8)
  /-- `CTRL.Ack`, type 1, sub-type 13 (rule R109). -/
  | ctrlAck (pv : BitVec 2) (fl : BitVec 8)
  /-- `CTRL.CfEnd`, type 1, sub-type 14 (rule R110). -/
  | ctrlCfEnd (pv : BitVec 2) (fl : BitVec 8)
  /-- `CTRL.CfEndCfAck`, type 1, sub-type 15 (rule R111). -/
  | ctrlCfEndCfAck (pv : BitVec 2) (fl : BitVec 8)
  /-- `DATA.Data`, type 2, sub-type 0 (rule R112). -/
  | dataData (pv : BitVec 2) (fl : BitVec 8)
  /-- `DATA.DataCfAck`, type 2, sub-type 1 (rule R113). -/
  | dataDataCfAck (pv : BitVec 2) (fl : BitVec 8)
  /-- `DATA.DataCfPoll`, type 2, sub-type 2 (rule R114). -/
  | dataDataCfPoll (pv : BitVec 2) (fl : BitVec 8)
  /-- `DATA.DataCfAckCfPoll`, type 2, sub-type 3 (rule R115). -/
  | dataDataCfAckCfPoll (pv : BitVec 2) (fl : BitVec 8)
  /-- `DATA.NullData`, type 2, sub-type 4 (rule R116). -/
  | dataNullData (pv : BitVec 2) (fl : BitVec 8)
  /-- `DATA.CfAck`, type 2, sub-type 5 (rule R117). -/
  | dataCfAck (pv : BitVec 2) (fl : BitVec 8)
  /-- `DATA.CfPoll`, type 2, sub-type 6 (rule R118). -/
  | dataCfPoll (pv : BitVec 2) (fl : BitVec 8)
  /-- `DATA.CfAckCfPoll`, type 2, sub-type 7 (rule R119). -/
  | dataCfAckCfPoll (pv : BitVec 2) (fl : BitVec 8)
  /-- `DATA.QoS`, type 2, sub-type 8 (rule R120). -/
  | dataQoS (pv : BitVec 2) (fl : BitVec 8)
  /-- `DATA.QoSDataCfAck`, type 2, sub-type 9 (rule R121). -/
  | dataQoSDataCfAck (pv : BitVec 2) (fl : BitVec 8)
  /-- `DATA.QoSDataCfPoll`, type 2, sub-type 10 (rule R122). -/
  | dataQoSDataCfPoll (pv : BitVec 2) (fl : BitVec 8)
  /-- `DATA.QoSDataCfAckCfPoll`, type 2, sub-type 11 (rule R123). -/
  | dataQoSDataCfAckCfPoll (pv : BitVec 2) (fl : BitVec 8)
  /-- `DATA.QoSNull`, type 2, sub-type 12 (rule R124). -/
  | dataQoSNull (pv : BitVec 2) (fl : BitVec 8)
  /-- `DATA.Reserved_13`, type 2, sub-type 13 (rule R125). -/
  | dataReserved13 (pv : BitVec 2) (fl : BitVec 8)
  /-- `DATA.QoSCfPoll`, type 2, sub-type 14 (rule R126). -/
  | dataQoSCfPoll (pv : BitVec 2) (fl : BitVec 8)
  /-- `DATA.QoSCfAckCfPoll`, type 2, sub-type 15 (rule R127). -/
  | dataQoSCfAckCfPoll (pv : BitVec 2) (fl : BitVec 8)
  /-- `UNKNOWN.UnHandled`, type 3, every sub-type code `s` (rule R78). -/
  | unknownUnHandled (s : BitVec 4) (pv : BitVec 2) (fl : BitVec 8)
deriving DecidableEq, Repr

end Sys2Proof
end

