-- ==== Sys2Proof/Machine/Ports.lean ====
section
/-!
DEFINITION. The port interface: the input ports of spec 10_state.md rule R25, the output ports of rule R26,
and the output codes of 30_encoding.md rule R57 and rule R58.
-/
namespace Sys2Proof

/-- Rule R57: the code of a frame type on the port `ftype`. -/
def frameTypeCode : FrameType → BitVec 2
  | .management => 0#2
  | .control => 1#2
  | .data => 2#2
  | .unknown => 3#2

/-- Rule R57 read backwards: every code of the port `ftype` stands for a member. -/
def frameTypeOfCode (c : BitVec 2) : FrameType :=
  if c = 0#2 then .management else if c = 1#2 then .control else if c = 2#2 then .data else .unknown

/-- Rule R58: the code of a frame sub-type on the port `fsub`. -/
def frameSubTypeCode : FrameSubType → BitVec 6
  | .associationRequest => 0#6
  | .associationResponse => 1#6
  | .reassociationRequest => 2#6
  | .reassociationResponse => 3#6
  | .probeRequest => 4#6
  | .probeResponse => 5#6
  | .beacon => 6#6
  | .atim => 7#6
  | .disassociation => 8#6
  | .authentication => 9#6
  | .deauthentication => 10#6
  | .trigger => 11#6
  | .tack => 12#6
  | .beamformingReportPoll => 13#6
  | .ndpAnnouncement => 14#6
  | .controlFrameExtension => 15#6
  | .controlWrapper => 16#6
  | .blockAckRequest => 17#6
  | .blockAck => 18#6
  | .psPoll => 19#6
  | .rts => 20#6
  | .cts => 21#6
  | .ack => 22#6
  | .cfEnd => 23#6
  | .cfEndCfAck => 24#6
  | .data => 25#6
  | .dataCfAck => 26#6
  | .dataCfPoll => 27#6
  | .dataCfAckCfPoll => 28#6
  | .nullData => 29#6
  | .cfAck => 30#6
  | .cfPoll => 31#6
  | .cfAckCfPoll => 32#6
  | .qos => 33#6
  | .qosDataCfAck => 34#6
  | .qosDataCfPoll => 35#6
  | .qosDataCfAckCfPoll => 36#6
  | .qosNull => 37#6
  | .qosCfPoll => 38#6
  | .qosCfAckCfPoll => 39#6
  | .reserved => 40#6
  | .unHandled => 41#6

/-- The management members of rule R12, in the order of their codes. -/
def managementSubTypes : List FrameSubType :=
  [.associationRequest, .associationResponse, .reassociationRequest, .reassociationResponse,
   .probeRequest, .probeResponse, .beacon, .atim,
   .disassociation, .authentication, .deauthentication]

/-- The control members of rule R12, in the order of their codes. -/
def controlSubTypes : List FrameSubType :=
  [.trigger, .tack, .beamformingReportPoll, .ndpAnnouncement,
   .controlFrameExtension, .controlWrapper, .blockAckRequest, .blockAck,
   .psPoll, .rts, .cts, .ack,
   .cfEnd, .cfEndCfAck]

/-- The data members of rule R12, in the order of their codes. -/
def dataSubTypes : List FrameSubType :=
  [.data, .dataCfAck, .dataCfPoll, .dataCfAckCfPoll,
   .nullData, .cfAck, .cfPoll, .cfAckCfPoll,
   .qos, .qosDataCfAck, .qosDataCfPoll, .qosDataCfAckCfPoll,
   .qosNull, .qosCfPoll, .qosCfAckCfPoll]

/-- The sentinels of rule R12, in the order of their codes. -/
def sentinelSubTypes : List FrameSubType :=
  [.reserved, .unHandled]

/-- Rule R12, rule R58: the 42 members in the order of their codes. -/
def frameSubTypeList : List FrameSubType :=
  managementSubTypes ++ controlSubTypes ++ dataSubTypes ++ sentinelSubTypes

/-- Rule R58 read backwards: the codes 42 to 63 are never driven and stand for no member. -/
def frameSubTypeOfCode (c : BitVec 6) : Option FrameSubType :=
  frameSubTypeList[c.toNat]?

end Sys2Proof

namespace Sys2Proof.Machine

/-- Rule R25: the three input ports. -/
structure InPorts where
  inB0 : BitVec 8
  inB1 : BitVec 8
  inCnt : BitVec 2
deriving DecidableEq, Repr, Inhabited

/-- Rule R26: the nine output ports (`true` is level 1). -/
structure OutPorts where
  ok : Bool
  errInsuf : Bool
  consumed : BitVec 2
  pvO : BitVec 2
  ftype : BitVec 2
  fsub : BitVec 6
  flagsO : BitVec 8
  rawType : BitVec 2
  rawSub : BitVec 4
deriving DecidableEq, Repr, Inhabited

/-- What the caller does with the input ports and the window during an invocation (rule R39, rule R152).
`held`: the inputs have been held for at least `T_PD` and are still held when the outputs are sampled.
`portsMoving`: the outputs are sampled while an input changes (93_implementation_defined.md I6).
`windowChanging`: the window changes during the invocation (I7). -/
inductive InputHold
  | held | portsMoving | windowChanging
deriving DecidableEq, Repr, Inhabited

/-- Rule R26, column "value when `ok = 0`"; rule R72. -/
def failurePorts : OutPorts :=
  { ok := false, errInsuf := true, consumed := 0#2, pvO := 0#2, ftype := 0#2, fsub := 0#6,
    flagsO := 0#8, rawType := 0#2, rawSub := 0#4 }

/-- Rule R26, column "meaning when `ok = 1`", and rule R27: the ports that show a record and the two raw codes. -/
def successPorts (r : FrameControl) (t : BitVec 2) (s : BitVec 4) : OutPorts :=
  { ok := true, errInsuf := false, consumed := 2#2, pvO := r.protocolVersion,
    ftype := frameTypeCode r.frameType, fsub := frameSubTypeCode r.frameSubtype,
    flagsO := r.flags, rawType := t, rawSub := s }

end Sys2Proof.Machine
end

