-- ==== Sys2Proof/Config.lean ====
section
/-!
DEFINITION. The values the spec leaves open. Each is opaque: no proof sees its value, so a statement holds whatever
it is. The fourth parameter of rule R7, SUBTYPE_TABLES, is data in State (Machine/Roms.lean holds its default).
-/
namespace Sys2Proof

/-- Free value (rule R27, "otherwise any value"): the byte on `in_b0` or `in_b1` where the window has no byte for it. -/
opaque Config.freePortByte : Nat → BitVec 8

/-- Free value (rule R152, 93_implementation_defined.md I6): the inputs seen by a sample taken while they change. -/
opaque Config.movingInPorts : Nat → Machine.InPorts

/-- Free value (rule R152, I6): the outputs seen by a sample taken while the inputs change. -/
opaque Config.movingOutPorts : Nat → Machine.OutPorts

/-- `T_PD` (rule R7, rule R151, D16): OPEN. The step never reads it; Safety.lean's reading of rule R152 does. -/
opaque Config.propagationDelay : Nat

end Sys2Proof
end

