-- ==== Sys2Proof/WellFormed.lean ====
section
/-!
DEFINITION. Well-formedness of instructions, of records and of the levels on the output ports.
-/
namespace Sys2Proof

/-- Rule R56: no encoding is illegal. The widths of rule R49 are carried by the operand types, so that no value of an
operand can be out of range and nothing is left to refuse (log 17). -/
def Instr.wellFormed (_ : Instr) : Bool := true

/-- The family column of rule R58, with `none` for the two sentinels. -/
def frameSubTypeFamily : FrameSubType → Option FrameType
  | .associationRequest | .associationResponse | .reassociationRequest | .reassociationResponse | .probeRequest | .probeResponse | .beacon | .atim | .disassociation | .authentication | .deauthentication => some .management
  | .trigger | .tack | .beamformingReportPoll | .ndpAnnouncement | .controlFrameExtension | .controlWrapper | .blockAckRequest | .blockAck | .psPoll | .rts | .cts | .ack | .cfEnd | .cfEndCfAck => some .control
  | .data | .dataCfAck | .dataCfPoll | .dataCfAckCfPoll | .nullData | .cfAck | .cfPoll | .cfAckCfPoll | .qos | .qosDataCfAck | .qosDataCfPoll | .qosDataCfAckCfPoll | .qosNull | .qosCfPoll | .qosCfAckCfPoll => some .data
  | .reserved | .unHandled => none

/-- A record the default tables can give: the sub-type belongs to the record's own family or is a sentinel, and
`Unknown` has `UnHandled` alone (rule R12, rule R78). -/
def FrameControl.wellFormed (r : FrameControl) : Bool :=
  if r.frameType = .unknown then r.frameSubtype = .unHandled
  else frameSubTypeFamily r.frameSubtype = none || frameSubTypeFamily r.frameSubtype = some r.frameType

/-- `err_insuf` is the complement of `ok` (rule R26). -/
def Machine.OutPorts.errIsComplement (p : OutPorts) : Bool := p.errInsuf = !p.ok

/-- `consumed` is 2 on success and 0 on failure (rule R26). -/
def Machine.OutPorts.consumedFollowsOk (p : OutPorts) : Bool :=
  p.consumed = if p.ok then 2#2 else 0#2

/-- Every field output is 0 when `ok = 0` (rule R26, rule R72). -/
def Machine.OutPorts.quietOnFailure (p : OutPorts) : Bool :=
  p.ok || (p.pvO = 0#2 && p.ftype = 0#2 && p.fsub = 0#6 && p.flagsO = 0#8 && p.rawType = 0#2 && p.rawSub = 0#4)

/-- The codes 42 to 63 are never driven on `fsub` (rule R58, 93_implementation_defined.md I9). -/
def Machine.OutPorts.subtypeCodeDriven (p : OutPorts) : Bool := p.fsub.toNat < 42

/-- The four checks together. -/
def Machine.OutPorts.wellFormed (p : OutPorts) : Bool :=
  p.errIsComplement && p.consumedFollowsOk && p.quietOnFailure && p.subtypeCodeDriven

end Sys2Proof
end

