-- ==== Sys2Proof/Decode.lean ====
section
/-!
DEFINITION. The decoder, total on any bytes; after it the encoder, written from the bit patterns of the opcode table,
the opcode rows themselves (match and mask, rule R52), and the table-word entry of the host.
-/
namespace Sys2Proof

/-- Rule R34: the word of two bytes, little-endian. -/
def wordOfBytes (b0 b1 : Byte) : FcWord := b0.setWidth 16 ||| (b1.setWidth 16 <<< 8)

/-- Rule R50: `pv = fc[1:0]`. -/
def versionField (fc : FcWord) : BitVec 2 := fc.extractLsb' 0 2
/-- Rule R50: `t = fc[3:2]`. -/
def typeField (fc : FcWord) : BitVec 2 := fc.extractLsb' 2 2
/-- Rule R50: `s = fc[7:4]`. -/
def subtypeField (fc : FcWord) : BitVec 4 := fc.extractLsb' 4 4
/-- Rule R50: `fl = fc[15:8]`. -/
def flagsField (fc : FcWord) : BitVec 8 := fc.extractLsb' 8 8

/-- Rule R53, column t=0: the MGMT rows by sub-type code. -/
def mgmtRows : Vector (BitVec 2 → BitVec 8 → Instr) 16 :=
  #v[.mgmtAssociationRequest, .mgmtAssociationResponse, .mgmtReassociationRequest, .mgmtReassociationResponse,
     .mgmtProbeRequest, .mgmtProbeResponse, .mgmtUnHandled6, .mgmtReserved7,
     .mgmtBeacon, .mgmtAtim, .mgmtDisassociation, .mgmtAuthentication,
     .mgmtDeauthentication, .mgmtUnHandled13, .mgmtUnHandled14, .mgmtReserved15]

/-- Rule R53, column t=1: the CTRL rows by sub-type code. -/
def ctrlRows : Vector (BitVec 2 → BitVec 8 → Instr) 16 :=
  #v[.ctrlReserved0, .ctrlReserved1, .ctrlTrigger, .ctrlTack,
     .ctrlBeamformingReportPoll, .ctrlNdpAnnouncement, .ctrlControlFrameExtension, .ctrlControlWrapper,
     .ctrlBlockAckRequest, .ctrlBlockAck, .ctrlPsPoll, .ctrlRts,
     .ctrlCts, .ctrlAck, .ctrlCfEnd, .ctrlCfEndCfAck]

/-- Rule R53, column t=2: the DATA rows by sub-type code. -/
def dataRows : Vector (BitVec 2 → BitVec 8 → Instr) 16 :=
  #v[.dataData, .dataDataCfAck, .dataDataCfPoll, .dataDataCfAckCfPoll,
     .dataNullData, .dataCfAck, .dataCfPoll, .dataCfAckCfPoll,
     .dataQoS, .dataQoSDataCfAck, .dataQoSDataCfPoll, .dataQoSDataCfAckCfPoll,
     .dataQoSNull, .dataReserved13, .dataQoSCfPoll, .dataQoSCfAckCfPoll]

/-- Rule R51: `t` and `s` together select exactly one row; `pv` and `fl` are its operands. -/
def selectRow (t : BitVec 2) (s : BitVec 4) (pv : BitVec 2) (fl : BitVec 8) : Instr :=
  if t = 0#2 then (mgmtRows[s.toNat]'s.isLt) pv fl
  else if t = 1#2 then (ctrlRows[s.toNat]'s.isLt) pv fl
  else if t = 2#2 then (dataRows[s.toNat]'s.isLt) pv fl
  else .unknownUnHandled s pv fl

/-- Rule R56: every word decodes. -/
def decodeWord (fc : FcWord) : Instr :=
  selectRow (typeField fc) (subtypeField fc) (versionField fc) (flagsField fc)

/-- Rule R65, rule R67: the first two bytes are the instruction and the rest is the remainder; fewer than two bytes are
refused by the name the spec gives. -/
def decode : List Byte → Except DecodeError (Instr × List Byte)
  | b0 :: b1 :: rest => .ok (decodeWord (wordOfBytes b0 b1), rest)
  | _ => .error .insufficientData

/-- A pattern string `ffffffff` `cccccc` `pp` of the opcode table, most significant bit first. -/
def rowWord (fl : BitVec 8) (c : BitVec 6) (pv : BitVec 2) : FcWord := fl ++ c ++ pv

/-- The encoder: for each row the pattern string of spec/opcode_table.json, its fixed bits 7:2 as written there
(for type 3, bits 3:2 fixed and bits 7:4 the operand `s`). -/
def encode : Instr → FcWord
  | .mgmtAssociationRequest pv fl => rowWord fl 0b000000#6 pv
  | .mgmtAssociationResponse pv fl => rowWord fl 0b000100#6 pv
  | .mgmtReassociationRequest pv fl => rowWord fl 0b001000#6 pv
  | .mgmtReassociationResponse pv fl => rowWord fl 0b001100#6 pv
  | .mgmtProbeRequest pv fl => rowWord fl 0b010000#6 pv
  | .mgmtProbeResponse pv fl => rowWord fl 0b010100#6 pv
  | .mgmtUnHandled6 pv fl => rowWord fl 0b011000#6 pv
  | .mgmtReserved7 pv fl => rowWord fl 0b011100#6 pv
  | .mgmtBeacon pv fl => rowWord fl 0b100000#6 pv
  | .mgmtAtim pv fl => rowWord fl 0b100100#6 pv
  | .mgmtDisassociation pv fl => rowWord fl 0b101000#6 pv
  | .mgmtAuthentication pv fl => rowWord fl 0b101100#6 pv
  | .mgmtDeauthentication pv fl => rowWord fl 0b110000#6 pv
  | .mgmtUnHandled13 pv fl => rowWord fl 0b110100#6 pv
  | .mgmtUnHandled14 pv fl => rowWord fl 0b111000#6 pv
  | .mgmtReserved15 pv fl => rowWord fl 0b111100#6 pv
  | .ctrlReserved0 pv fl => rowWord fl 0b000001#6 pv
  | .ctrlReserved1 pv fl => rowWord fl 0b000101#6 pv
  | .ctrlTrigger pv fl => rowWord fl 0b001001#6 pv
  | .ctrlTack pv fl => rowWord fl 0b001101#6 pv
  | .ctrlBeamformingReportPoll pv fl => rowWord fl 0b010001#6 pv
  | .ctrlNdpAnnouncement pv fl => rowWord fl 0b010101#6 pv
  | .ctrlControlFrameExtension pv fl => rowWord fl 0b011001#6 pv
  | .ctrlControlWrapper pv fl => rowWord fl 0b011101#6 pv
  | .ctrlBlockAckRequest pv fl => rowWord fl 0b100001#6 pv
  | .ctrlBlockAck pv fl => rowWord fl 0b100101#6 pv
  | .ctrlPsPoll pv fl => rowWord fl 0b101001#6 pv
  | .ctrlRts pv fl => rowWord fl 0b101101#6 pv
  | .ctrlCts pv fl => rowWord fl 0b110001#6 pv
  | .ctrlAck pv fl => rowWord fl 0b110101#6 pv
  | .ctrlCfEnd pv fl => rowWord fl 0b111001#6 pv
  | .ctrlCfEndCfAck pv fl => rowWord fl 0b111101#6 pv
  | .dataData pv fl => rowWord fl 0b000010#6 pv
  | .dataDataCfAck pv fl => rowWord fl 0b000110#6 pv
  | .dataDataCfPoll pv fl => rowWord fl 0b001010#6 pv
  | .dataDataCfAckCfPoll pv fl => rowWord fl 0b001110#6 pv
  | .dataNullData pv fl => rowWord fl 0b010010#6 pv
  | .dataCfAck pv fl => rowWord fl 0b010110#6 pv
  | .dataCfPoll pv fl => rowWord fl 0b011010#6 pv
  | .dataCfAckCfPoll pv fl => rowWord fl 0b011110#6 pv
  | .dataQoS pv fl => rowWord fl 0b100010#6 pv
  | .dataQoSDataCfAck pv fl => rowWord fl 0b100110#6 pv
  | .dataQoSDataCfPoll pv fl => rowWord fl 0b101010#6 pv
  | .dataQoSDataCfAckCfPoll pv fl => rowWord fl 0b101110#6 pv
  | .dataQoSNull pv fl => rowWord fl 0b110010#6 pv
  | .dataReserved13 pv fl => rowWord fl 0b110110#6 pv
  | .dataQoSCfPoll pv fl => rowWord fl 0b111010#6 pv
  | .dataQoSCfAckCfPoll pv fl => rowWord fl 0b111110#6 pv
  | .unknownUnHandled s pv fl => rowWord fl (s ++ 0b11#2) pv

/-- The bytes of a word as the window holds them: bits 7:0 first (rule R34). -/
def bytesOfWord (fc : FcWord) : List Byte := [fc.extractLsb' 0 8, fc.extractLsb' 8 8]

/-- The two window bytes of an instruction. -/
def encodeBytes (i : Instr) : List Byte := bytesOfWord (encode i)

/-- Rule R63: `W[0] = (s << 4) | (t << 2) | pv`. -/
def byteZeroOfFields (pv t : BitVec 2) (s : BitVec 4) : Byte :=
  (s.setWidth 8 <<< 4) ||| (t.setWidth 8 <<< 2) ||| pv.setWidth 8

/-- A row of the opcode table as a match and a mask over `fc` (rule R52). -/
structure OpcodeRow where
  matchBits : BitVec 16
  mask : BitVec 16
deriving DecidableEq, Repr

/-- Rule R52: `(fc & mask) == match`. -/
def rowSelects (r : OpcodeRow) (fc : FcWord) : Bool := fc &&& r.mask = r.matchBits

/-- The row of spec/opcode_table.json that an instruction comes from. -/
def opcodeRow : Instr → OpcodeRow
  | .mgmtAssociationRequest _ _ => ⟨0x0000#16, 0x00FC#16⟩
  | .mgmtAssociationResponse _ _ => ⟨0x0010#16, 0x00FC#16⟩
  | .mgmtReassociationRequest _ _ => ⟨0x0020#16, 0x00FC#16⟩
  | .mgmtReassociationResponse _ _ => ⟨0x0030#16, 0x00FC#16⟩
  | .mgmtProbeRequest _ _ => ⟨0x0040#16, 0x00FC#16⟩
  | .mgmtProbeResponse _ _ => ⟨0x0050#16, 0x00FC#16⟩
  | .mgmtUnHandled6 _ _ => ⟨0x0060#16, 0x00FC#16⟩
  | .mgmtReserved7 _ _ => ⟨0x0070#16, 0x00FC#16⟩
  | .mgmtBeacon _ _ => ⟨0x0080#16, 0x00FC#16⟩
  | .mgmtAtim _ _ => ⟨0x0090#16, 0x00FC#16⟩
  | .mgmtDisassociation _ _ => ⟨0x00A0#16, 0x00FC#16⟩
  | .mgmtAuthentication _ _ => ⟨0x00B0#16, 0x00FC#16⟩
  | .mgmtDeauthentication _ _ => ⟨0x00C0#16, 0x00FC#16⟩
  | .mgmtUnHandled13 _ _ => ⟨0x00D0#16, 0x00FC#16⟩
  | .mgmtUnHandled14 _ _ => ⟨0x00E0#16, 0x00FC#16⟩
  | .mgmtReserved15 _ _ => ⟨0x00F0#16, 0x00FC#16⟩
  | .ctrlReserved0 _ _ => ⟨0x0004#16, 0x00FC#16⟩
  | .ctrlReserved1 _ _ => ⟨0x0014#16, 0x00FC#16⟩
  | .ctrlTrigger _ _ => ⟨0x0024#16, 0x00FC#16⟩
  | .ctrlTack _ _ => ⟨0x0034#16, 0x00FC#16⟩
  | .ctrlBeamformingReportPoll _ _ => ⟨0x0044#16, 0x00FC#16⟩
  | .ctrlNdpAnnouncement _ _ => ⟨0x0054#16, 0x00FC#16⟩
  | .ctrlControlFrameExtension _ _ => ⟨0x0064#16, 0x00FC#16⟩
  | .ctrlControlWrapper _ _ => ⟨0x0074#16, 0x00FC#16⟩
  | .ctrlBlockAckRequest _ _ => ⟨0x0084#16, 0x00FC#16⟩
  | .ctrlBlockAck _ _ => ⟨0x0094#16, 0x00FC#16⟩
  | .ctrlPsPoll _ _ => ⟨0x00A4#16, 0x00FC#16⟩
  | .ctrlRts _ _ => ⟨0x00B4#16, 0x00FC#16⟩
  | .ctrlCts _ _ => ⟨0x00C4#16, 0x00FC#16⟩
  | .ctrlAck _ _ => ⟨0x00D4#16, 0x00FC#16⟩
  | .ctrlCfEnd _ _ => ⟨0x00E4#16, 0x00FC#16⟩
  | .ctrlCfEndCfAck _ _ => ⟨0x00F4#16, 0x00FC#16⟩
  | .dataData _ _ => ⟨0x0008#16, 0x00FC#16⟩
  | .dataDataCfAck _ _ => ⟨0x0018#16, 0x00FC#16⟩
  | .dataDataCfPoll _ _ => ⟨0x0028#16, 0x00FC#16⟩
  | .dataDataCfAckCfPoll _ _ => ⟨0x0038#16, 0x00FC#16⟩
  | .dataNullData _ _ => ⟨0x0048#16, 0x00FC#16⟩
  | .dataCfAck _ _ => ⟨0x0058#16, 0x00FC#16⟩
  | .dataCfPoll _ _ => ⟨0x0068#16, 0x00FC#16⟩
  | .dataCfAckCfPoll _ _ => ⟨0x0078#16, 0x00FC#16⟩
  | .dataQoS _ _ => ⟨0x0088#16, 0x00FC#16⟩
  | .dataQoSDataCfAck _ _ => ⟨0x0098#16, 0x00FC#16⟩
  | .dataQoSDataCfPoll _ _ => ⟨0x00A8#16, 0x00FC#16⟩
  | .dataQoSDataCfAckCfPoll _ _ => ⟨0x00B8#16, 0x00FC#16⟩
  | .dataQoSNull _ _ => ⟨0x00C8#16, 0x00FC#16⟩
  | .dataReserved13 _ _ => ⟨0x00D8#16, 0x00FC#16⟩
  | .dataQoSCfPoll _ _ => ⟨0x00E8#16, 0x00FC#16⟩
  | .dataQoSCfAckCfPoll _ _ => ⟨0x00F8#16, 0x00FC#16⟩
  | .unknownUnHandled _ _ _ => ⟨0x000C#16, 0x000C#16⟩

/-- The MGMT rows of spec/opcode_table.json. -/
def mgmtOpcodeRows : List OpcodeRow :=
  [⟨0x0000#16, 0x00FC#16⟩, ⟨0x0010#16, 0x00FC#16⟩, ⟨0x0020#16, 0x00FC#16⟩, ⟨0x0030#16, 0x00FC#16⟩,
   ⟨0x0040#16, 0x00FC#16⟩, ⟨0x0050#16, 0x00FC#16⟩, ⟨0x0060#16, 0x00FC#16⟩, ⟨0x0070#16, 0x00FC#16⟩,
   ⟨0x0080#16, 0x00FC#16⟩, ⟨0x0090#16, 0x00FC#16⟩, ⟨0x00A0#16, 0x00FC#16⟩, ⟨0x00B0#16, 0x00FC#16⟩,
   ⟨0x00C0#16, 0x00FC#16⟩, ⟨0x00D0#16, 0x00FC#16⟩, ⟨0x00E0#16, 0x00FC#16⟩, ⟨0x00F0#16, 0x00FC#16⟩]

/-- The CTRL rows of spec/opcode_table.json. -/
def ctrlOpcodeRows : List OpcodeRow :=
  [⟨0x0004#16, 0x00FC#16⟩, ⟨0x0014#16, 0x00FC#16⟩, ⟨0x0024#16, 0x00FC#16⟩, ⟨0x0034#16, 0x00FC#16⟩,
   ⟨0x0044#16, 0x00FC#16⟩, ⟨0x0054#16, 0x00FC#16⟩, ⟨0x0064#16, 0x00FC#16⟩, ⟨0x0074#16, 0x00FC#16⟩,
   ⟨0x0084#16, 0x00FC#16⟩, ⟨0x0094#16, 0x00FC#16⟩, ⟨0x00A4#16, 0x00FC#16⟩, ⟨0x00B4#16, 0x00FC#16⟩,
   ⟨0x00C4#16, 0x00FC#16⟩, ⟨0x00D4#16, 0x00FC#16⟩, ⟨0x00E4#16, 0x00FC#16⟩, ⟨0x00F4#16, 0x00FC#16⟩]

/-- The DATA rows of spec/opcode_table.json. -/
def dataOpcodeRows : List OpcodeRow :=
  [⟨0x0008#16, 0x00FC#16⟩, ⟨0x0018#16, 0x00FC#16⟩, ⟨0x0028#16, 0x00FC#16⟩, ⟨0x0038#16, 0x00FC#16⟩,
   ⟨0x0048#16, 0x00FC#16⟩, ⟨0x0058#16, 0x00FC#16⟩, ⟨0x0068#16, 0x00FC#16⟩, ⟨0x0078#16, 0x00FC#16⟩,
   ⟨0x0088#16, 0x00FC#16⟩, ⟨0x0098#16, 0x00FC#16⟩, ⟨0x00A8#16, 0x00FC#16⟩, ⟨0x00B8#16, 0x00FC#16⟩,
   ⟨0x00C8#16, 0x00FC#16⟩, ⟨0x00D8#16, 0x00FC#16⟩, ⟨0x00E8#16, 0x00FC#16⟩, ⟨0x00F8#16, 0x00FC#16⟩]

/-- The 49 rows of spec/opcode_table.json, in its order. -/
def opcodeRows : List OpcodeRow :=
  mgmtOpcodeRows ++ ctrlOpcodeRows ++ dataOpcodeRows ++ [⟨0x000C#16, 0x000C#16⟩]

/-- The bytes of the table's word of `nbits` bits, at most the 2 bytes of FC16, the bits above `nbits` zero. -/
def bytesOfTableWord (nbits w : Nat) : List Byte := bytesOfWord (BitVec.ofNat 16 (w % 2 ^ nbits))

/-- What the decoder reads from a word numbered as the opcode table numbers it. -/
def decodeTableWord (nbits w : Nat) : Option Instr :=
  match decode (bytesOfTableWord nbits w) with
  | .ok (i, _) => some i
  | .error _ => none

end Sys2Proof
end

