-- ==== Sys2Proof/Machine/Memory.lean ====
section
/-!
DEFINITION. The caller's memory, in which the window of an invocation lies (spec 20_memory.md rule R31, rule R37,
rule R41). FCDEC only reads it (rule R38); the writes here are the caller's, who places a window.
-/
namespace Sys2Proof.Machine

/-- Cells (address, byte). An address that is not listed holds no byte: it lies outside every window (log 4). -/
abbrev Memory := List Host.Cell

/-- The canonical form: addresses strictly rising. -/
abbrev memoryWf (m : Memory) : Prop := (m.map Prod.fst).Pairwise (· < ·)

/-- The byte at an address, if the memory lists one. -/
def readByte : Memory → Nat → Option Byte
  | [], _ => none
  | (k, b) :: m, a => if k = a then some b else readByte m a

/-- The caller's store of one byte, in its place in the rising order. -/
def writeByte : Memory → Nat → Byte → Memory
  | [], a, b => [(a, b)]
  | (k, c) :: m, a, b =>
    if a < k then (a, b) :: (k, c) :: m
    else if a = k then (a, b) :: m
    else (k, c) :: writeByte m a b

/-- The caller's store of a sequence of bytes at rising addresses. -/
def writeBytes : Memory → Nat → List Byte → Memory
  | m, _, [] => m
  | m, a, b :: bs => writeBytes (writeByte m a b) (a + 1) bs

/-- The bytes listed at `a`, `a + 1`, ... up to the first address that lists none: the window at `a` (rule R31, log 4). -/
def bytesFrom : Memory → Nat → List Byte
  | [], _ => []
  | (k, b) :: m, a => if k < a then bytesFrom m a else if k = a then b :: bytesFrom m (a + 1) else []

end Sys2Proof.Machine
end

