-- ==== Sys2Proof/Machine/Roms.lean ====
section
/-!
DEFINITION. The four constant tables of spec 10_state.md rule R24: their types, their contents as the spec gives them,
and the reading of one entry. MGMT_ROM, CTRL_ROM and DATA_ROM together are the parameter SUBTYPE_TABLES (rule R12).
-/
namespace Sys2Proof.Machine

/-- SUBTYPE_TABLES (rule R12, D1): a total table on 0..15 for each classifiable type (rule R15). -/
structure SubtypeTables where
  mgmt : Vector FrameSubType 16
  ctrl : Vector FrameSubType 16
  data : Vector FrameSubType 16
deriving DecidableEq, Repr

/-- TYPE_ROM (rules R74-R77). -/
def typeRomContents : Vector FrameType 4 := #v[.management, .control, .data, .unknown]

/-- MGMT_ROM's default contents (rules R80-R95). Source-fixed: 8. PRESUMED by the spec itself, from IEEE 802.11: the other cells (log 1). -/
def mgmtRomContents : Vector FrameSubType 16 :=
  #v[.associationRequest, .associationResponse, .reassociationRequest, .reassociationResponse,
     .probeRequest, .probeResponse, .unHandled, .reserved,
     .beacon, .atim, .disassociation, .authentication,
     .deauthentication, .unHandled, .unHandled, .reserved]

/-- CTRL_ROM's default contents (rules R96-R111). Source-fixed: 0, 1, 11. The others are derived from the listing order (log 1). -/
def ctrlRomContents : Vector FrameSubType 16 :=
  #v[.reserved, .reserved, .trigger, .tack,
     .beamformingReportPoll, .ndpAnnouncement, .controlFrameExtension, .controlWrapper,
     .blockAckRequest, .blockAck, .psPoll, .rts,
     .cts, .ack, .cfEnd, .cfEndCfAck]

/-- DATA_ROM's default contents (rules R112-R127). Source-fixed: 8, 13. PRESUMED by the spec itself, from IEEE 802.11: the other cells (log 1). -/
def dataRomContents : Vector FrameSubType 16 :=
  #v[.data, .dataCfAck, .dataCfPoll, .dataCfAckCfPoll,
     .nullData, .cfAck, .cfPoll, .cfAckCfPoll,
     .qos, .qosDataCfAck, .qosDataCfPoll, .qosDataCfAckCfPoll,
     .qosNull, .reserved, .qosCfPoll, .qosCfAckCfPoll]

/-- The spec's default for SUBTYPE_TABLES. -/
def subtypeTablesDefault : SubtypeTables :=
  { mgmt := mgmtRomContents, ctrl := ctrlRomContents, data := dataRomContents }

/-- `TYPE_ROM[t]`: in range by width (rule R73). -/
def typeRomAt (rom : Vector FrameType 4) (t : BitVec 2) : FrameType := rom[t.toNat]'t.isLt

/-- `ROM[s]` of a sub-type table: in range by width (rule R73). -/
def subtypeRomAt (rom : Vector FrameSubType 16) (s : BitVec 4) : FrameSubType := rom[s.toNat]'s.isLt

end Sys2Proof.Machine
end

