-- ==== Sys2Proof/Machine/State.lean ====
section
/-!
DEFINITION. State: FCDEC's constant tables and ports, the caller's side of an invocation, and the model's own counter of
free values. Beside it the reasons a step can stop, and the state after reset.
-/
namespace Sys2Proof.Machine

/-- No constructor: FCDEC has no condition under which it stops (rule R129, rule R145). `InsufficientData` is a result
value and so a next state. Safe: a step that never faults hides nothing the spec calls a fault. -/
inductive Fault
deriving DecidableEq, Repr

/-- Why a step has no meaning. -/
inductive Refusal
  /-- Raised by no arm of this model: an instruction without a meaning. Safe: nothing is proved of it. -/
  | notModelled (mnemonic : String)
  /-- Raised by `step` when the window changes during the invocation; the spec says "`refuse`: the model gives it no
  meaning" (93_implementation_defined.md I7, rule R39). Safe: nothing is proved of such a run. -/
  | windowChanging
deriving DecidableEq, Repr

/-- The state. The first two fields are FCDEC's constant state (rule R24), the ports are its interface (rule R25,
rule R26), `draws` is the model's own, and the others are the caller's. -/
structure State where
  /-- TYPE_ROM (rule R24). -/
  typeRom : Vector FrameType 4
  /-- MGMT_ROM, CTRL_ROM and DATA_ROM: the parameter SUBTYPE_TABLES (rule R12, rule R24). -/
  tables : SubtypeTables
  /-- The caller's memory, in which windows lie (rule R31, rule R41). -/
  mem : Memory
  /-- The caller's read position: offset 0 of the next window (rule R19). -/
  pos : Nat
  /-- Whether the caller holds the inputs while they are evaluated and sampled (rule R39, rule R152). -/
  hold : InputHold
  /-- The levels on the input ports (rule R25). -/
  inPorts : InPorts
  /-- The levels on the output ports (rule R26). -/
  outPorts : OutPorts
  /-- The abstract result of the caller's last invocation, if there was one (rule R14, rule R29). -/
  result : Option DecodeResult
  /-- The records the caller has received, oldest first (rule R13; 95_test_vectors.md section 3). -/
  records : List FrameControl
  /-- How many times free values have been drawn (the model's own). -/
  draws : Nat
deriving DecidableEq, Repr

/-- Rule R30: the tables hold their contents and the outputs are the function of the inputs. There is no reset input
(rule R146); this is the state at power-up (rule R147). The other fields are DESIGN CHOICE: logs 5, 8 and 9. -/
def State.reset : State :=
  { typeRom := typeRomContents
    tables := subtypeTablesDefault
    mem := []
    pos := 0
    hold := .held
    inPorts := { inB0 := 0#8, inB1 := 0#8, inCnt := 0#2 }
    outPorts := failurePorts
    result := none
    records := []
    draws := 0 }

end Sys2Proof.Machine
end

