-- ==== Sys2Proof/Machine/Operands.lean ====
section
/-!
DEFINITION. Where the operands of DECODE come from: the window at the caller's position, and the input ports that stand
for it (spec 10_state.md rule R27, 30_encoding.md rule R60).
-/
namespace Sys2Proof.Machine

/-- The window `W` of the next invocation (rule R31). -/
def windowOf (s : State) : List Byte := bytesFrom s.mem s.pos

/-- Rule R60: `in_cnt = min(L, 3)`. -/
def countCode (len : Nat) : BitVec 2 := BitVec.ofNat 2 (min len 3)

/-- Rule R27: the port inputs of an invocation on `w`; `free0` and `free1` stand for "any value" where the window has no
byte for the port. -/
def portInputs (w : List Byte) (free0 free1 : Byte) : InPorts :=
  { inB0 := w[0]?.getD free0, inB1 := w[1]?.getD free1, inCnt := countCode w.length }

/-- The caller applies the window at its position to the input ports, with fresh free values (log 5). -/
def applyInputs (s : State) : State :=
  { s with
    inPorts := portInputs (windowOf s) (Config.freePortByte (2 * s.draws)) (Config.freePortByte (2 * s.draws + 1))
    draws := s.draws + 1 }

/-- The protocol version passes through unchecked (rule R68). -/
def passVersion (pv : BitVec 2) : BitVec 2 := pv

end Sys2Proof.Machine
end

