-- ==== Sys2Proof/Machine/Ops.lean ====
section
/-!
DEFINITION. The shared operations: classification (rule R79), the two ends of an invocation (rule R70, rule R72), the
classification of one cell, a sample taken while the inputs change (rule R152), and what the caller does between
invocations (rule R143).
-/
namespace Sys2Proof.Machine

/-- Rule R79, the SubtypeClassifier: the table is selected by the classified type; `Unknown` reads no table (rule R78). -/
def subtype (tables : SubtypeTables) (ft : FrameType) (s : BitVec 4) : FrameSubType :=
  match ft with
  | .management => subtypeRomAt tables.mgmt s
  | .control => subtypeRomAt tables.ctrl s
  | .data => subtypeRomAt tables.data s
  | .unknown => .unHandled

/-- Rule R71: the record of a successful invocation. -/
def assembleRecord (typeRom : Vector FrameType 4) (tables : SubtypeTables) (t : BitVec 2) (s : BitVec 4)
    (pv : BitVec 2) (fl : BitVec 8) : FrameControl :=
  { protocolVersion := passVersion pv
    frameType := typeRomAt typeRom t
    frameSubtype := subtype tables (typeRomAt typeRom t) s
    flags := passFlags fl }

/-- Rule R70: `Ok(W[2..], rec)`. The caller receives the remainder and the record, the ports show the record and the raw
codes (rule R27), and the caller advances by the 2 bytes consumed (rule R19, rule R143; log 2). -/
def returnOk (r : FrameControl) (t : BitVec 2) (s : BitVec 4) (st : State) : State :=
  { st with
    outPorts := successPorts r t s
    result := some (.ok ((windowOf st).drop 2) r)
    records := st.records ++ [r]
    pos := st.pos + 2 }

/-- TAKING THE ONE EXCEPTION (rule R72, rule R128, rule R133): the result is `Err(InsufficientData)`, every field output is
0, and nothing else changes: no record, no remainder, no advance, no saved state, no vector. It is not sticky (rule R145),
and there is no return from it, because there is no trap (rule R134). -/
def raiseInsufficientData (st : State) : State :=
  { st with outPorts := failurePorts, result := some (.err .insufficientData) }

/-- The effect of the cell (t, s) with operands `pv` and `fl`: the length check has already passed (rule R67). -/
def classifyCell (t : BitVec 2) (s : BitVec 4) (pv : BitVec 2) (fl : BitVec 8) (st : State) :
    Host.Outcome State Fault Refusal :=
  .next (returnOk (assembleRecord st.typeRom st.tables t s pv fl) t s st)

/-- A sample taken while the inputs change (rule R152, 93_implementation_defined.md I6): the ports have any values, and
the caller has observed nothing of FCDEC, so that no other field changes (log 6). -/
def sampleMovingPorts (st : State) : State :=
  { st with
    inPorts := Config.movingInPorts st.draws
    outPorts := Config.movingOutPorts st.draws
    draws := st.draws + 1 }

/-- The caller places `bytes` at its position and holds its inputs: the next window begins with them (rule R143). -/
def placeWindow (bytes : List Byte) (st : State) : State :=
  { st with mem := writeBytes st.mem st.pos bytes, hold := .held }

/-- Why the output ports cannot be read as a record. -/
inductive PortReadRefusal
  /-- `ok = 0`: no record exists (rule R26, 93_implementation_defined.md I8). -/
  | noRecord
  /-- `fsub` is one of 42 to 63, which are never driven: an ill-formed port state (I9). -/
  | undrivenSubtypeCode
deriving DecidableEq, Repr

/-- A consumer's reading of the output ports as a record (rule R26, rule R27). -/
def recordOfPorts (p : OutPorts) : Except PortReadRefusal FrameControl :=
  if p.ok then
    match frameSubTypeOfCode p.fsub with
    | some fs => .ok { protocolVersion := p.pvO, frameType := frameTypeOfCode p.ftype, frameSubtype := fs, flags := p.flagsO }
    | none => .error .undrivenSubtypeCode
  else .error .noRecord

end Sys2Proof.Machine
end

