-- ==== Sys2Proof/Machine/Control.lean ====
section
/-!
DEFINITION. The meanings of the CTRL rows, one definition per row, each the classification of its cell (rule R79).
-/
namespace Sys2Proof.Machine

/-- `CTRL.Reserved_0` (rule R96). -/
def execCtrlReserved0 (pv : BitVec 2) (fl : BitVec 8) (st : State) : Host.Outcome State Fault Refusal :=
  classifyCell 0b01#2 0b0000#4 pv fl st

/-- `CTRL.Reserved_1` (rule R97). -/
def execCtrlReserved1 (pv : BitVec 2) (fl : BitVec 8) (st : State) : Host.Outcome State Fault Refusal :=
  classifyCell 0b01#2 0b0001#4 pv fl st

/-- `CTRL.Trigger` (rule R98). -/
def execCtrlTrigger (pv : BitVec 2) (fl : BitVec 8) (st : State) : Host.Outcome State Fault Refusal :=
  classifyCell 0b01#2 0b0010#4 pv fl st

/-- `CTRL.Tack` (rule R99). -/
def execCtrlTack (pv : BitVec 2) (fl : BitVec 8) (st : State) : Host.Outcome State Fault Refusal :=
  classifyCell 0b01#2 0b0011#4 pv fl st

/-- `CTRL.BeamformingReportPoll` (rule R100). -/
def execCtrlBeamformingReportPoll (pv : BitVec 2) (fl : BitVec 8) (st : State) : Host.Outcome State Fault Refusal :=
  classifyCell 0b01#2 0b0100#4 pv fl st

/-- `CTRL.NdpAnnouncement` (rule R101). -/
def execCtrlNdpAnnouncement (pv : BitVec 2) (fl : BitVec 8) (st : State) : Host.Outcome State Fault Refusal :=
  classifyCell 0b01#2 0b0101#4 pv fl st

/-- `CTRL.ControlFrameExtension` (rule R102). -/
def execCtrlControlFrameExtension (pv : BitVec 2) (fl : BitVec 8) (st : State) : Host.Outcome State Fault Refusal :=
  classifyCell 0b01#2 0b0110#4 pv fl st

/-- `CTRL.ControlWrapper` (rule R103). -/
def execCtrlControlWrapper (pv : BitVec 2) (fl : BitVec 8) (st : State) : Host.Outcome State Fault Refusal :=
  classifyCell 0b01#2 0b0111#4 pv fl st

/-- `CTRL.BlockAckRequest` (rule R104). -/
def execCtrlBlockAckRequest (pv : BitVec 2) (fl : BitVec 8) (st : State) : Host.Outcome State Fault Refusal :=
  classifyCell 0b01#2 0b1000#4 pv fl st

/-- `CTRL.BlockAck` (rule R105). -/
def execCtrlBlockAck (pv : BitVec 2) (fl : BitVec 8) (st : State) : Host.Outcome State Fault Refusal :=
  classifyCell 0b01#2 0b1001#4 pv fl st

/-- `CTRL.PsPoll` (rule R106). -/
def execCtrlPsPoll (pv : BitVec 2) (fl : BitVec 8) (st : State) : Host.Outcome State Fault Refusal :=
  classifyCell 0b01#2 0b1010#4 pv fl st

/-- `CTRL.Rts` (rule R107). -/
def execCtrlRts (pv : BitVec 2) (fl : BitVec 8) (st : State) : Host.Outcome State Fault Refusal :=
  classifyCell 0b01#2 0b1011#4 pv fl st

/-- `CTRL.Cts` (rule R108). -/
def execCtrlCts (pv : BitVec 2) (fl : BitVec 8) (st : State) : Host.Outcome State Fault Refusal :=
  classifyCell 0b01#2 0b1100#4 pv fl st

/-- `CTRL.Ack` (rule R109). -/
def execCtrlAck (pv : BitVec 2) (fl : BitVec 8) (st : State) : Host.Outcome State Fault Refusal :=
  classifyCell 0b01#2 0b1101#4 pv fl st

/-- `CTRL.CfEnd` (rule R110). -/
def execCtrlCfEnd (pv : BitVec 2) (fl : BitVec 8) (st : State) : Host.Outcome State Fault Refusal :=
  classifyCell 0b01#2 0b1110#4 pv fl st

/-- `CTRL.CfEndCfAck` (rule R111). -/
def execCtrlCfEndCfAck (pv : BitVec 2) (fl : BitVec 8) (st : State) : Host.Outcome State Fault Refusal :=
  classifyCell 0b01#2 0b1111#4 pv fl st

end Sys2Proof.Machine
end

