-- ==== Sys2Proof/Machine/Data.lean ====
section
/-!
DEFINITION. The meanings of the DATA rows, one definition per row, each the classification of its cell (rule R79).
-/
namespace Sys2Proof.Machine

/-- `DATA.Data` (rule R112). -/
def execDataData (pv : BitVec 2) (fl : BitVec 8) (st : State) : Host.Outcome State Fault Refusal :=
  classifyCell 0b10#2 0b0000#4 pv fl st

/-- `DATA.DataCfAck` (rule R113). -/
def execDataDataCfAck (pv : BitVec 2) (fl : BitVec 8) (st : State) : Host.Outcome State Fault Refusal :=
  classifyCell 0b10#2 0b0001#4 pv fl st

/-- `DATA.DataCfPoll` (rule R114). -/
def execDataDataCfPoll (pv : BitVec 2) (fl : BitVec 8) (st : State) : Host.Outcome State Fault Refusal :=
  classifyCell 0b10#2 0b0010#4 pv fl st

/-- `DATA.DataCfAckCfPoll` (rule R115). -/
def execDataDataCfAckCfPoll (pv : BitVec 2) (fl : BitVec 8) (st : State) : Host.Outcome State Fault Refusal :=
  classifyCell 0b10#2 0b0011#4 pv fl st

/-- `DATA.NullData` (rule R116). -/
def execDataNullData (pv : BitVec 2) (fl : BitVec 8) (st : State) : Host.Outcome State Fault Refusal :=
  classifyCell 0b10#2 0b0100#4 pv fl st

/-- `DATA.CfAck` (rule R117). -/
def execDataCfAck (pv : BitVec 2) (fl : BitVec 8) (st : State) : Host.Outcome State Fault Refusal :=
  classifyCell 0b10#2 0b0101#4 pv fl st

/-- `DATA.CfPoll` (rule R118). -/
def execDataCfPoll (pv : BitVec 2) (fl : BitVec 8) (st : State) : Host.Outcome State Fault Refusal :=
  classifyCell 0b10#2 0b0110#4 pv fl st

/-- `DATA.CfAckCfPoll` (rule R119). -/
def execDataCfAckCfPoll (pv : BitVec 2) (fl : BitVec 8) (st : State) : Host.Outcome State Fault Refusal :=
  classifyCell 0b10#2 0b0111#4 pv fl st

/-- `DATA.QoS` (rule R120). -/
def execDataQoS (pv : BitVec 2) (fl : BitVec 8) (st : State) : Host.Outcome State Fault Refusal :=
  classifyCell 0b10#2 0b1000#4 pv fl st

/-- `DATA.QoSDataCfAck` (rule R121). -/
def execDataQoSDataCfAck (pv : BitVec 2) (fl : BitVec 8) (st : State) : Host.Outcome State Fault Refusal :=
  classifyCell 0b10#2 0b1001#4 pv fl st

/-- `DATA.QoSDataCfPoll` (rule R122). -/
def execDataQoSDataCfPoll (pv : BitVec 2) (fl : BitVec 8) (st : State) : Host.Outcome State Fault Refusal :=
  classifyCell 0b10#2 0b1010#4 pv fl st

/-- `DATA.QoSDataCfAckCfPoll` (rule R123). -/
def execDataQoSDataCfAckCfPoll (pv : BitVec 2) (fl : BitVec 8) (st : State) : Host.Outcome State Fault Refusal :=
  classifyCell 0b10#2 0b1011#4 pv fl st

/-- `DATA.QoSNull` (rule R124). -/
def execDataQoSNull (pv : BitVec 2) (fl : BitVec 8) (st : State) : Host.Outcome State Fault Refusal :=
  classifyCell 0b10#2 0b1100#4 pv fl st

/-- `DATA.Reserved_13` (rule R125). -/
def execDataReserved13 (pv : BitVec 2) (fl : BitVec 8) (st : State) : Host.Outcome State Fault Refusal :=
  classifyCell 0b10#2 0b1101#4 pv fl st

/-- `DATA.QoSCfPoll` (rule R126). -/
def execDataQoSCfPoll (pv : BitVec 2) (fl : BitVec 8) (st : State) : Host.Outcome State Fault Refusal :=
  classifyCell 0b10#2 0b1110#4 pv fl st

/-- `DATA.QoSCfAckCfPoll` (rule R127). -/
def execDataQoSCfAckCfPoll (pv : BitVec 2) (fl : BitVec 8) (st : State) : Host.Outcome State Fault Refusal :=
  classifyCell 0b10#2 0b1111#4 pv fl st

end Sys2Proof.Machine
end

