-- ==== Sys2Proof/Machine/Management.lean ====
section
/-!
DEFINITION. The meanings of the MGMT rows, one definition per row, each the classification of its cell (rule R79).
-/
namespace Sys2Proof.Machine

/-- `MGMT.AssociationRequest` (rule R80). -/
def execMgmtAssociationRequest (pv : BitVec 2) (fl : BitVec 8) (st : State) : Host.Outcome State Fault Refusal :=
  classifyCell 0b00#2 0b0000#4 pv fl st

/-- `MGMT.AssociationResponse` (rule R81). -/
def execMgmtAssociationResponse (pv : BitVec 2) (fl : BitVec 8) (st : State) : Host.Outcome State Fault Refusal :=
  classifyCell 0b00#2 0b0001#4 pv fl st

/-- `MGMT.ReassociationRequest` (rule R82). -/
def execMgmtReassociationRequest (pv : BitVec 2) (fl : BitVec 8) (st : State) : Host.Outcome State Fault Refusal :=
  classifyCell 0b00#2 0b0010#4 pv fl st

/-- `MGMT.ReassociationResponse` (rule R83). -/
def execMgmtReassociationResponse (pv : BitVec 2) (fl : BitVec 8) (st : State) : Host.Outcome State Fault Refusal :=
  classifyCell 0b00#2 0b0011#4 pv fl st

/-- `MGMT.ProbeRequest` (rule R84). -/
def execMgmtProbeRequest (pv : BitVec 2) (fl : BitVec 8) (st : State) : Host.Outcome State Fault Refusal :=
  classifyCell 0b00#2 0b0100#4 pv fl st

/-- `MGMT.ProbeResponse` (rule R85). -/
def execMgmtProbeResponse (pv : BitVec 2) (fl : BitVec 8) (st : State) : Host.Outcome State Fault Refusal :=
  classifyCell 0b00#2 0b0101#4 pv fl st

/-- `MGMT.UnHandled_6` (rule R86). -/
def execMgmtUnHandled6 (pv : BitVec 2) (fl : BitVec 8) (st : State) : Host.Outcome State Fault Refusal :=
  classifyCell 0b00#2 0b0110#4 pv fl st

/-- `MGMT.Reserved_7` (rule R87). -/
def execMgmtReserved7 (pv : BitVec 2) (fl : BitVec 8) (st : State) : Host.Outcome State Fault Refusal :=
  classifyCell 0b00#2 0b0111#4 pv fl st

/-- `MGMT.Beacon` (rule R88). -/
def execMgmtBeacon (pv : BitVec 2) (fl : BitVec 8) (st : State) : Host.Outcome State Fault Refusal :=
  classifyCell 0b00#2 0b1000#4 pv fl st

/-- `MGMT.Atim` (rule R89). -/
def execMgmtAtim (pv : BitVec 2) (fl : BitVec 8) (st : State) : Host.Outcome State Fault Refusal :=
  classifyCell 0b00#2 0b1001#4 pv fl st

/-- `MGMT.Disassociation` (rule R90). -/
def execMgmtDisassociation (pv : BitVec 2) (fl : BitVec 8) (st : State) : Host.Outcome State Fault Refusal :=
  classifyCell 0b00#2 0b1010#4 pv fl st

/-- `MGMT.Authentication` (rule R91). -/
def execMgmtAuthentication (pv : BitVec 2) (fl : BitVec 8) (st : State) : Host.Outcome State Fault Refusal :=
  classifyCell 0b00#2 0b1011#4 pv fl st

/-- `MGMT.Deauthentication` (rule R92). -/
def execMgmtDeauthentication (pv : BitVec 2) (fl : BitVec 8) (st : State) : Host.Outcome State Fault Refusal :=
  classifyCell 0b00#2 0b1100#4 pv fl st

/-- `MGMT.UnHandled_13` (rule R93). -/
def execMgmtUnHandled13 (pv : BitVec 2) (fl : BitVec 8) (st : State) : Host.Outcome State Fault Refusal :=
  classifyCell 0b00#2 0b1101#4 pv fl st

/-- `MGMT.UnHandled_14` (rule R94). -/
def execMgmtUnHandled14 (pv : BitVec 2) (fl : BitVec 8) (st : State) : Host.Outcome State Fault Refusal :=
  classifyCell 0b00#2 0b1110#4 pv fl st

/-- `MGMT.Reserved_15` (rule R95). -/
def execMgmtReserved15 (pv : BitVec 2) (fl : BitVec 8) (st : State) : Host.Outcome State Fault Refusal :=
  classifyCell 0b00#2 0b1111#4 pv fl st

end Sys2Proof.Machine
end

