-- ==== Sys2Proof/Machine/Unknown.lean ====
section
/-!
DEFINITION. The meanings of the UNKNOWN rows, one definition per row, each the classification of its cell (rule R79).
-/
namespace Sys2Proof.Machine

/-- `UNKNOWN.UnHandled`, every sub-type code of type 3 (rule R78). -/
def execUnknownUnHandled (s : BitVec 4) (pv : BitVec 2) (fl : BitVec 8) (st : State) : Host.Outcome State Fault Refusal :=
  classifyCell 0b11#2 s pv fl st

end Sys2Proof.Machine
end

