-- ==== Sys2Proof/Machine/Dispatch.lean ====
section
/-!
DEFINITION. The one dispatch: an arm for each constructor of Instr, each a direct call of its meaning.
-/
namespace Sys2Proof.Machine

def exec (i : Instr) (s : State) : Host.Outcome State Fault Refusal :=
  match i with
  | .mgmtAssociationRequest pv fl => Sys2Proof.Machine.execMgmtAssociationRequest pv fl s
  | .mgmtAssociationResponse pv fl => Sys2Proof.Machine.execMgmtAssociationResponse pv fl s
  | .mgmtReassociationRequest pv fl => Sys2Proof.Machine.execMgmtReassociationRequest pv fl s
  | .mgmtReassociationResponse pv fl => Sys2Proof.Machine.execMgmtReassociationResponse pv fl s
  | .mgmtProbeRequest pv fl => Sys2Proof.Machine.execMgmtProbeRequest pv fl s
  | .mgmtProbeResponse pv fl => Sys2Proof.Machine.execMgmtProbeResponse pv fl s
  | .mgmtUnHandled6 pv fl => Sys2Proof.Machine.execMgmtUnHandled6 pv fl s
  | .mgmtReserved7 pv fl => Sys2Proof.Machine.execMgmtReserved7 pv fl s
  | .mgmtBeacon pv fl => Sys2Proof.Machine.execMgmtBeacon pv fl s
  | .mgmtAtim pv fl => Sys2Proof.Machine.execMgmtAtim pv fl s
  | .mgmtDisassociation pv fl => Sys2Proof.Machine.execMgmtDisassociation pv fl s
  | .mgmtAuthentication pv fl => Sys2Proof.Machine.execMgmtAuthentication pv fl s
  | .mgmtDeauthentication pv fl => Sys2Proof.Machine.execMgmtDeauthentication pv fl s
  | .mgmtUnHandled13 pv fl => Sys2Proof.Machine.execMgmtUnHandled13 pv fl s
  | .mgmtUnHandled14 pv fl => Sys2Proof.Machine.execMgmtUnHandled14 pv fl s
  | .mgmtReserved15 pv fl => Sys2Proof.Machine.execMgmtReserved15 pv fl s
  | .ctrlReserved0 pv fl => Sys2Proof.Machine.execCtrlReserved0 pv fl s
  | .ctrlReserved1 pv fl => Sys2Proof.Machine.execCtrlReserved1 pv fl s
  | .ctrlTrigger pv fl => Sys2Proof.Machine.execCtrlTrigger pv fl s
  | .ctrlTack pv fl => Sys2Proof.Machine.execCtrlTack pv fl s
  | .ctrlBeamformingReportPoll pv fl => Sys2Proof.Machine.execCtrlBeamformingReportPoll pv fl s
  | .ctrlNdpAnnouncement pv fl => Sys2Proof.Machine.execCtrlNdpAnnouncement pv fl s
  | .ctrlControlFrameExtension pv fl => Sys2Proof.Machine.execCtrlControlFrameExtension pv fl s
  | .ctrlControlWrapper pv fl => Sys2Proof.Machine.execCtrlControlWrapper pv fl s
  | .ctrlBlockAckRequest pv fl => Sys2Proof.Machine.execCtrlBlockAckRequest pv fl s
  | .ctrlBlockAck pv fl => Sys2Proof.Machine.execCtrlBlockAck pv fl s
  | .ctrlPsPoll pv fl => Sys2Proof.Machine.execCtrlPsPoll pv fl s
  | .ctrlRts pv fl => Sys2Proof.Machine.execCtrlRts pv fl s
  | .ctrlCts pv fl => Sys2Proof.Machine.execCtrlCts pv fl s
  | .ctrlAck pv fl => Sys2Proof.Machine.execCtrlAck pv fl s
  | .ctrlCfEnd pv fl => Sys2Proof.Machine.execCtrlCfEnd pv fl s
  | .ctrlCfEndCfAck pv fl => Sys2Proof.Machine.execCtrlCfEndCfAck pv fl s
  | .dataData pv fl => Sys2Proof.Machine.execDataData pv fl s
  | .dataDataCfAck pv fl => Sys2Proof.Machine.execDataDataCfAck pv fl s
  | .dataDataCfPoll pv fl => Sys2Proof.Machine.execDataDataCfPoll pv fl s
  | .dataDataCfAckCfPoll pv fl => Sys2Proof.Machine.execDataDataCfAckCfPoll pv fl s
  | .dataNullData pv fl => Sys2Proof.Machine.execDataNullData pv fl s
  | .dataCfAck pv fl => Sys2Proof.Machine.execDataCfAck pv fl s
  | .dataCfPoll pv fl => Sys2Proof.Machine.execDataCfPoll pv fl s
  | .dataCfAckCfPoll pv fl => Sys2Proof.Machine.execDataCfAckCfPoll pv fl s
  | .dataQoS pv fl => Sys2Proof.Machine.execDataQoS pv fl s
  | .dataQoSDataCfAck pv fl => Sys2Proof.Machine.execDataQoSDataCfAck pv fl s
  | .dataQoSDataCfPoll pv fl => Sys2Proof.Machine.execDataQoSDataCfPoll pv fl s
  | .dataQoSDataCfAckCfPoll pv fl => Sys2Proof.Machine.execDataQoSDataCfAckCfPoll pv fl s
  | .dataQoSNull pv fl => Sys2Proof.Machine.execDataQoSNull pv fl s
  | .dataReserved13 pv fl => Sys2Proof.Machine.execDataReserved13 pv fl s
  | .dataQoSCfPoll pv fl => Sys2Proof.Machine.execDataQoSCfPoll pv fl s
  | .dataQoSCfAckCfPoll pv fl => Sys2Proof.Machine.execDataQoSCfAckCfPoll pv fl s
  | .unknownUnHandled sub pv fl => Sys2Proof.Machine.execUnknownUnHandled sub pv fl s

end Sys2Proof.Machine
end

