-- ==== Sys2Proof/Machine/Step.lean ====
section
/-!
DEFINITION. One step: one invocation of DECODE on the window at the caller's position (spec 40_decode.md rule R64,
70_reset_and_hazards.md rule R151), and the placing of an instruction where the next step fetches it.
-/
namespace Sys2Proof.Machine

/-- The caller applies the window to the inputs; the length check comes first and alone decides between `Err` and the
instruction of the first two bytes (rule R67). Inputs that are not held give no invocation (rule R39, rule R152). -/
def step (s : State) : Host.Outcome State Fault Refusal :=
  match s.hold with
  | .windowChanging => .refused .windowChanging
  | .portsMoving => .next (sampleMovingPorts s)
  | .held =>
    match decode (windowOf s) with
    | .ok (i, _) => exec i (applyInputs s)
    | .error .insufficientData => .next (raiseInsufficientData (applyInputs s))

/-- `s` with the instruction whose table word is `w` at the start of the next window, and the inputs held. -/
def State.withFetchWord (s : State) (nbits w : Nat) : State := placeWindow (bytesOfTableWord nbits w) s

end Sys2Proof.Machine
end

