-- ==== Sys2Proof/Machine/Reference.lean ====
section
/-!
DEFINITION. DECODE as the spec writes it, beside the machine that runs it row by row: the pseudocode of spec 40_decode.md
rule R64 and rule R65, the port equations of rule R66, and the correspondence of 10_state.md rule R27. The step does not
call this file; statements compare the machine with it.
-/
namespace Sys2Proof.Machine

/-- Rule R65, `extract(W)` for a window of at least 2 bytes: (pv, t, s, fl, rem). -/
def extract (b0 b1 : Byte) (rest : List Byte) : BitVec 2 × BitVec 2 × BitVec 4 × BitVec 8 × List Byte :=
  let fc := wordOfBytes b0 b1
  (fc.extractLsb' 0 2, fc.extractLsb' 2 2, fc.extractLsb' 4 4, fc.extractLsb' 8 8, rest)

/-- Rule R64, `decode(W)`. -/
def decodeWindow (typeRom : Vector FrameType 4) (tables : SubtypeTables) : List Byte → DecodeResult
  | b0 :: b1 :: rest =>
    let (pv, t, s, fl, rem) := extract b0 b1 rest
    let ft := typeRomAt typeRom t
    let fs := subtype tables ft s
    .ok rem { protocolVersion := pv, frameType := ft, frameSubtype := fs, flags := fl }
  | _ => .err .insufficientData

/-- Rule R66, DECODE at the ports. -/
def portEquations (typeRom : Vector FrameType 4) (tables : SubtypeTables) (p : InPorts) : OutPorts :=
  let ok : Bool := 2 ≤ p.inCnt.toNat
  { ok := ok
    errInsuf := !ok
    consumed := if ok then 2#2 else 0#2
    pvO := if ok then p.inB0.extractLsb' 0 2 else 0#2
    rawType := if ok then p.inB0.extractLsb' 2 2 else 0#2
    rawSub := if ok then p.inB0.extractLsb' 4 4 else 0#4
    ftype := if ok then frameTypeCode (typeRomAt typeRom (p.inB0.extractLsb' 2 2)) else 0#2
    fsub :=
      if ok then
        frameSubTypeCode (subtype tables (typeRomAt typeRom (p.inB0.extractLsb' 2 2)) (p.inB0.extractLsb' 4 4))
      else 0#6
    flagsO := if ok then p.inB1 else 0#8 }

/-- Rule R27: the output ports that correspond to the abstract result of an invocation on `w`. -/
def portsCorrespond (w : List Byte) (r : DecodeResult) (p : OutPorts) : Prop :=
  match r with
  | .err .insufficientData => p.ok = false
  | .ok rem c =>
    rem = w.drop 2 ∧ p.ok = true ∧ p.consumed = 2#2 ∧ p.pvO = c.protocolVersion ∧ p.flagsO = c.flags ∧
      p.ftype = frameTypeCode c.frameType ∧ p.fsub = frameSubTypeCode c.frameSubtype ∧
      ∀ b0, w.head? = some b0 → p.rawType = b0.extractLsb' 2 2 ∧ p.rawSub = b0.extractLsb' 4 4

end Sys2Proof.Machine
end

