-- ==== Sys2Proof/Safety.lean ====
section
/-!
DEFINITION. The terms in which statements speak of a good state and a good run: the premises on tables, the caller's
contract, and the invariant of the model.
-/
namespace Sys2Proof.Safety

open Sys2Proof.Machine

/-- TYPE_ROM as the source states it (rules R74-R77). -/
def SourceTypeRom (rom : Vector FrameType 4) : Prop :=
  typeRomAt rom 0#2 = .management ∧ typeRomAt rom 1#2 = .control ∧
    typeRomAt rom 2#2 = .data ∧ typeRomAt rom 3#2 = .unknown

/-- The six sub-type cells that the source itself fixes (93_implementation_defined.md section 2). -/
def SourceFixedCells (tables : SubtypeTables) : Prop :=
  subtypeRomAt tables.mgmt 8#4 = .beacon ∧
    subtypeRomAt tables.ctrl 0#4 = .reserved ∧ subtypeRomAt tables.ctrl 1#4 = .reserved ∧
    subtypeRomAt tables.ctrl 11#4 = .rts ∧
    subtypeRomAt tables.data 8#4 = .qos ∧ subtypeRomAt tables.data 13#4 = .reserved

/-- The tables are the spec's own, TYPE_ROM and the default SUBTYPE_TABLES: the premise of a claim that rests on cells
the source does not anchor (D1, log 1). -/
def SpecTables (s : State) : Prop := s.typeRom = typeRomContents ∧ s.tables = subtypeTablesDefault

/-- The caller keeps its contract: the inputs are held (rule R143, rule R39). -/
def InputsHeld (s : State) : Prop := s.hold = .held

/-- Rule R152: a sample of the ports is an observation of FCDEC when the inputs have been held for at least `T_PD` and
are still held. `InputHold.held` stands for this; a step never measures time (rule R151). -/
def IsObservation (heldFor : Nat) (stillHeld : Bool) : Prop := Config.propagationDelay ≤ heldFor ∧ stillHeld = true

/-- The step has a next state. -/
def Completes (o : Host.Outcome State Fault Refusal) : Prop := ∃ t, o = .next t

/-- The outputs are the function of the inputs and the tables (rule R17, rule R147). -/
def OutputsFollowInputs (s : State) : Prop :=
  s.hold = .held → s.outPorts = portEquations s.typeRom s.tables s.inPorts

/-- The remainder of the last success is the window at the advanced position (rule R27, rule R33). -/
def RemainderIsNextWindow (s : State) : Prop :=
  ∀ rem rec, s.result = some (.ok rem rec) → rem = windowOf s

/-- The record of the last success is the last one the caller collected. -/
def LastRecordCollected (s : State) : Prop :=
  ∀ rem rec, s.result = some (.ok rem rec) → s.records.getLast? = some rec

/-- The invariant that every step keeps. -/
structure Inv (s : State) : Prop where
  memory : memoryWf s.mem
  outputs : OutputsFollowInputs s
  remainder : RemainderIsNextWindow s
  collected : LastRecordCollected s

end Sys2Proof.Safety
end

