-- ==== Sys2Proof/Certificates/Slice0/Obligations.lean ====
section
/-!
DEFINITION. The statements for the provers, from the spec's numbered rules; each docstring names its rule. Where the spec
marks a rule as its own decision or derivation, or a clause rests on a choice of the model, the docstring says so.
-/
namespace Sys2Proof.Statements

open Sys2Proof.Machine

/-- The state after `Ok(W[2..], rec)`, every port written out: what an instruction's own effect leaves, and by the record
update everything it leaves unchanged. The caller's advance and its list of records are the model's choice (log 2). -/
def afterOk (st : State) (rec : FrameControl) (ftype : BitVec 2) (fsub : BitVec 6) (t : BitVec 2) (s : BitVec 4) : State :=
  { st with
    outPorts :=
      { ok := true, errInsuf := false, consumed := 2#2, pvO := rec.protocolVersion, ftype := ftype, fsub := fsub,
        flagsO := rec.flags, rawType := t, rawSub := s }
    result := some (.ok ((windowOf st).drop 2) rec)
    records := st.records ++ [rec]
    pos := st.pos + 2 }

/-- What a cell rule of spec 42 to 44 says of its row: the words that select it, the bytes that carry it, and its effect
whenever the tables hold its type and its member. -/
def CellRule (row : BitVec 2 → BitVec 8 → Instr) (matchBits : BitVec 16) (t : BitVec 2) (s : BitVec 4)
    (cell : SubtypeTables → FrameSubType) (ft : FrameType) (fs : FrameSubType) (ftype : BitVec 2) (fsub : BitVec 6) :
    Prop :=
  (∀ fc : FcWord, fc &&& 0x00FC#16 = matchBits →
    typeField fc = t ∧ subtypeField fc = s ∧ decodeWord fc = row (versionField fc) (flagsField fc)) ∧
  (∀ pv fl, encodeBytes (row pv fl) = [byteZeroOfFields pv t s, fl]) ∧
  ∀ (pv : BitVec 2) (fl : BitVec 8) (st : State), typeRomAt st.typeRom t = ft → cell st.tables = fs →
    exec (row pv fl) st =
      .next (afterOk st { protocolVersion := pv, frameType := ft, frameSubtype := fs, flags := fl } ftype fsub t s)

/-- What a source-fixed cell rule says of its row, and no more: the words that select it, and for every operand and every
state whose tables hold the cell, that the instruction completes, the record it gives, `fsub` and `raw_sub`. -/
def SourceCellRule (row : BitVec 2 → BitVec 8 → Instr) (matchBits : BitVec 16) (t : BitVec 2) (s : BitVec 4)
    (cell : SubtypeTables → FrameSubType) (ft : FrameType) (fs : FrameSubType) (fsub : BitVec 6) : Prop :=
  cell State.reset.tables = fs ∧
  (∀ fc : FcWord, fc &&& 0x00FC#16 = matchBits →
    typeField fc = t ∧ subtypeField fc = s ∧ decodeWord fc = row (versionField fc) (flagsField fc)) ∧
  (∀ pv fl, encodeBytes (row pv fl) = [byteZeroOfFields pv t s, fl]) ∧
  ∀ (pv : BitVec 2) (fl : BitVec 8) (st : State), typeRomAt st.typeRom t = ft → cell st.tables = fs →
    ∃ u rem, exec (row pv fl) st = .next u ∧
      u.result = some (.ok rem { protocolVersion := pv, frameType := ft, frameSubtype := fs, flags := fl }) ∧
      u.outPorts.fsub = fsub ∧ u.outPorts.rawSub = s

/-- What rules R74 to R77 say of a type code: a window whose masked word is `bits` gives this type, this code on the port,
and the sub-type that `select` reads, whatever its other bits. -/
def TypeRule (bits : BitVec 16) (t : BitVec 2) (ft : FrameType) (select : SubtypeTables → BitVec 4 → FrameSubType) : Prop :=
  ∀ (st : State) (b0 b1 : Byte) (rest : List Byte), st.hold = .held → typeRomAt st.typeRom t = ft →
    windowOf st = b0 :: b1 :: rest → wordOfBytes b0 b1 &&& 0x000C#16 = bits →
    ∃ u rec, step st = .next u ∧ u.result = some (.ok rest rec) ∧ rec.frameType = ft ∧ u.outPorts.ftype = t ∧
      rec.frameSubtype = select st.tables (subtypeField (wordOfBytes b0 b1))

/-- The machine from `s` after `k` invocations that all complete. -/
def stepsTo : Nat → State → State → Prop
  | 0, s, u => u = s
  | k + 1, s, u => ∃ t, step s = .next t ∧ stepsTo k t u

end Sys2Proof.Statements

open Sys2Proof Sys2Proof.Machine Sys2Proof.Safety Sys2Proof.Statements

/-- Decoding the bytes of any instruction, whatever follows them in the window, gives back that instruction with every
operand and leaves what follows. Every instruction is well-formed (rule R56, log 17), so that no form is shut out. -/
def Obligations.DecodeOfEncodeIsIdentity : Prop :=
  ∀ (i : Instr) (rest : List Byte), i.wellFormed = true → decode (encodeBytes i ++ rest) = .ok (i, rest)

/-- Each word has one meaning: what a window of two bytes decodes to encodes back to those two bytes. -/
def Obligations.EncodeOfDecodeIsIdentity : Prop :=
  ∀ (b0 b1 : Byte) (rest : List Byte) (i : Instr) (rem : List Byte),
    decode (b0 :: b1 :: rest) = .ok (i, rem) → encodeBytes i = [b0, b1] ∧ rem = rest

/-- The rows of the opcode table are the masks and matches of 30_encoding.md section 2, the 48 classified cells and the one
row of type 3, all distinct, and every 16-bit word selects exactly one of them, the row of the instruction it decodes to.
The spec marks this rule as its own derivation. -/
def Obligations.EveryWordSelectsExactlyOneRow : Prop :=
  (∀ (t : BitVec 2) (s : BitVec 4), t ≠ 3#2 →
    (⟨(s.setWidth 16 <<< 4) ||| (t.setWidth 16 <<< 2), 0x00FC#16⟩ : OpcodeRow) ∈ opcodeRows) ∧
  (⟨0x000C#16, 0x000C#16⟩ : OpcodeRow) ∈ opcodeRows ∧
  opcodeRows.length = 49 ∧ opcodeRows.Nodup ∧
  (∀ fc : FcWord, opcodeRow (decodeWord fc) ∈ opcodeRows) ∧
  ∀ fc : FcWord, ∀ r ∈ opcodeRows, rowSelects r fc = true ↔ r = opcodeRow (decodeWord fc)

/-- Rule R50: the extraction, bit by bit of the two bytes. -/
def Obligations.ExtractionReadsTheFieldBits : Prop :=
  ∀ (b0 b1 : Byte),
    (∀ i, i < 2 → (versionField (wordOfBytes b0 b1)).getLsbD i = b0.getLsbD i) ∧
    (∀ i, i < 2 → (typeField (wordOfBytes b0 b1)).getLsbD i = b0.getLsbD (2 + i)) ∧
    (∀ i, i < 4 → (subtypeField (wordOfBytes b0 b1)).getLsbD i = b0.getLsbD (4 + i)) ∧
    subtypeField (wordOfBytes b0 b1) = (b0 >>> 4).setWidth 4 ∧
    flagsField (wordOfBytes b0 b1) = b1

/-- The inverse of extraction (30_encoding.md section 5, which the spec marks as its own derivation; 90_conflicts.md C3,
D6): it holds of the extracted values and of the ports, and not of the classified record, because under the default tables
two different windows give one record. -/
def Obligations.RoundTripHoldsAtThePortsOnly : Prop :=
  (∀ (pv t : BitVec 2) (s : BitVec 4) (fl : BitVec 8) (rest : List Byte),
    extract (byteZeroOfFields pv t s) fl rest = (pv, t, s, fl, rest)) ∧
  (∀ (st : State) (b0 b1 : Byte) (rest : List Byte), st.hold = .held → windowOf st = b0 :: b1 :: rest →
    ∃ u, step st = .next u ∧
      byteZeroOfFields u.outPorts.pvO u.outPorts.rawType u.outPorts.rawSub = b0 ∧ u.outPorts.flagsO = b1) ∧
  decodeWindow typeRomContents subtypeTablesDefault [0x04#8, 0x00#8] =
    decodeWindow typeRomContents subtypeTablesDefault [0x14#8, 0x00#8]

/-- Rule R56: every two bytes decode, whatever they are, and the decoder's only refusal is of a window of fewer than two. -/
def Obligations.OnlyTheLengthIsRefused : Prop :=
  (∀ (b0 b1 : Byte) (rest : List Byte), ∃ i, decode (b0 :: b1 :: rest) = .ok (i, rest)) ∧
  ∀ (w : List Byte) (e : DecodeError), decode w = .error e ↔ w.length < 2

/-- Words written out from the patterns of the opcode table decode to their rows (the three examples of the source's §8 and
one word of type 3). -/
def Obligations.WrittenOutWordsDecode : Prop :=
  decode [0b10000000#8, 0b00000000#8] = .ok (.mgmtBeacon 0#2 0x00#8, []) ∧
  decode [0b10110100#8, 0b00000001#8] = .ok (.ctrlRts 0#2 0x01#8, []) ∧
  decode [0b10001000#8, 0xFF#8] = .ok (.dataQoS 0#2 0xFF#8, []) ∧
  decode [0b11111101#8, 0x12#8] = .ok (.unknownUnHandled 15#4 1#2 0x12#8, [])

/-- A step on held inputs runs the instruction that the window decodes to, after the caller has applied the window to the
input ports: byte 0 and byte 1 on their ports, the count min(L, 3), and nothing else but the model's counter of free
values (log 5). -/
def Obligations.StepRunsTheDecodedInstruction : Prop :=
  ∀ (st : State) (i : Instr) (rest : List Byte), st.hold = .held → decode (windowOf st) = .ok (i, rest) →
    ∃ b0 b1, windowOf st = b0 :: b1 :: rest ∧
      step st = exec i { st with
        inPorts := { inB0 := b0, inB1 := b1, inCnt := if rest = [] then 2#2 else 3#2 }
        draws := st.draws + 1 }

/-- The model's own placing of a window, its choice for what a host does (log 13): `withFetchWord` puts an instruction where
the next step runs it, from any state, whatever its memory lists; the table word of an instruction is its encoding. -/
def Obligations.PlacedInstructionIsRun : Prop :=
  ∀ (st : State) (i : Instr),
    decodeTableWord 16 (encode i).toNat = some i ∧
    step (st.withFetchWord 16 (encode i).toNat) = exec i (applyInputs (st.withFetchWord 16 (encode i).toNat)) ∧
    (st.withFetchWord 16 (encode i).toNat).pos = st.pos ∧
    ∀ a, a ≠ st.pos → a ≠ st.pos + 1 → readByte (st.withFetchWord 16 (encode i).toNat).mem a = readByte st.mem a

/-- Every one of the 49 instructions completes in every state, under every content of the tables (D1: the tables can be
swapped without changing any other rule): the record is what the held tables give for the type and sub-type bits of the
instruction's own word, the ports show it, and everything else is unchanged but for the caller's advance, which the step makes
by the model's choice (log 2). -/
def Obligations.EveryInstructionCompletesByTheHeldTables : Prop :=
  ∀ (i : Instr) (st : State),
    let w := encode i
    let ft := typeRomAt st.typeRom (w.extractLsb' 2 2)
    let fs := match ft with
      | .management => subtypeRomAt st.tables.mgmt (w.extractLsb' 4 4)
      | .control => subtypeRomAt st.tables.ctrl (w.extractLsb' 4 4)
      | .data => subtypeRomAt st.tables.data (w.extractLsb' 4 4)
      | .unknown => .unHandled
    exec i st = .next (afterOk st
      { protocolVersion := w.extractLsb' 0 2, frameType := ft, frameSubtype := fs, flags := w.extractLsb' 8 8 }
      (frameTypeCode ft) (frameSubTypeCode fs) (w.extractLsb' 2 2) (w.extractLsb' 4 4))

/-- The frame of all 49 instructions: none writes memory, a table, the input ports, the caller's hold or the counter of free
values; the records received before stay as they were. That the position moves by the 2 bytes consumed and one record is appended is
the caller's advance, which the step makes by the model's choice (log 2). -/
def Obligations.FrameOfEveryInstruction : Prop :=
  ∀ (i : Instr) (st t : State), exec i st = .next t →
    t.typeRom = st.typeRom ∧ t.tables = st.tables ∧ t.mem = st.mem ∧ (∀ a, readByte t.mem a = readByte st.mem a) ∧
    t.hold = st.hold ∧ t.inPorts = st.inPorts ∧ t.draws = st.draws ∧ t.pos = st.pos + 2 ∧
    ∃ rec, t.records = st.records ++ [rec]

/-- The management rows of sub-types 0 to 7 (42_management_subtypes.md, rules R80 to R87): for each, the words that select it,
the bytes that carry it, and the next state of its execution, completing for every operand whenever the tables hold its
cell. The cell is a premise, as D1 asks of cells that the source does not anchor (log 1); the caller's advance in the next
state is the model's choice (log 2). -/
def Obligations.ManagementCellsZeroToSeven : Prop :=
  CellRule .mgmtAssociationRequest 0x0000#16 0#2 0#4
    (fun T => subtypeRomAt T.mgmt 0#4) .management .associationRequest 0#2 0#6 ∧
  CellRule .mgmtAssociationResponse 0x0010#16 0#2 1#4
    (fun T => subtypeRomAt T.mgmt 1#4) .management .associationResponse 0#2 1#6 ∧
  CellRule .mgmtReassociationRequest 0x0020#16 0#2 2#4
    (fun T => subtypeRomAt T.mgmt 2#4) .management .reassociationRequest 0#2 2#6 ∧
  CellRule .mgmtReassociationResponse 0x0030#16 0#2 3#4
    (fun T => subtypeRomAt T.mgmt 3#4) .management .reassociationResponse 0#2 3#6 ∧
  CellRule .mgmtProbeRequest 0x0040#16 0#2 4#4
    (fun T => subtypeRomAt T.mgmt 4#4) .management .probeRequest 0#2 4#6 ∧
  CellRule .mgmtProbeResponse 0x0050#16 0#2 5#4
    (fun T => subtypeRomAt T.mgmt 5#4) .management .probeResponse 0#2 5#6 ∧
  CellRule .mgmtUnHandled6 0x0060#16 0#2 6#4
    (fun T => subtypeRomAt T.mgmt 6#4) .management .unHandled 0#2 41#6 ∧
  CellRule .mgmtReserved7 0x0070#16 0#2 7#4
    (fun T => subtypeRomAt T.mgmt 7#4) .management .reserved 0#2 40#6

/-- The management rows of sub-types 8 to 15 (42_management_subtypes.md, rules R88 to R95): for each, the words that select it,
the bytes that carry it, and the next state of its execution, completing for every operand whenever the tables hold its
cell. The cell is a premise, as D1 asks of cells that the source does not anchor (log 1); the caller's advance in the next
state is the model's choice (log 2). -/
def Obligations.ManagementCellsEightToFifteen : Prop :=
  CellRule .mgmtBeacon 0x0080#16 0#2 8#4
    (fun T => subtypeRomAt T.mgmt 8#4) .management .beacon 0#2 6#6 ∧
  CellRule .mgmtAtim 0x0090#16 0#2 9#4
    (fun T => subtypeRomAt T.mgmt 9#4) .management .atim 0#2 7#6 ∧
  CellRule .mgmtDisassociation 0x00A0#16 0#2 10#4
    (fun T => subtypeRomAt T.mgmt 10#4) .management .disassociation 0#2 8#6 ∧
  CellRule .mgmtAuthentication 0x00B0#16 0#2 11#4
    (fun T => subtypeRomAt T.mgmt 11#4) .management .authentication 0#2 9#6 ∧
  CellRule .mgmtDeauthentication 0x00C0#16 0#2 12#4
    (fun T => subtypeRomAt T.mgmt 12#4) .management .deauthentication 0#2 10#6 ∧
  CellRule .mgmtUnHandled13 0x00D0#16 0#2 13#4
    (fun T => subtypeRomAt T.mgmt 13#4) .management .unHandled 0#2 41#6 ∧
  CellRule .mgmtUnHandled14 0x00E0#16 0#2 14#4
    (fun T => subtypeRomAt T.mgmt 14#4) .management .unHandled 0#2 41#6 ∧
  CellRule .mgmtReserved15 0x00F0#16 0#2 15#4
    (fun T => subtypeRomAt T.mgmt 15#4) .management .reserved 0#2 40#6

/-- The control rows of sub-types 0 to 7 (43_control_subtypes.md, rules R96 to R103): for each, the words that select it,
the bytes that carry it, and the next state of its execution, completing for every operand whenever the tables hold its
cell. The cell is a premise, as D1 asks of cells that the source does not anchor (log 1); the caller's advance in the next
state is the model's choice (log 2). -/
def Obligations.ControlCellsZeroToSeven : Prop :=
  CellRule .ctrlReserved0 0x0004#16 1#2 0#4
    (fun T => subtypeRomAt T.ctrl 0#4) .control .reserved 1#2 40#6 ∧
  CellRule .ctrlReserved1 0x0014#16 1#2 1#4
    (fun T => subtypeRomAt T.ctrl 1#4) .control .reserved 1#2 40#6 ∧
  CellRule .ctrlTrigger 0x0024#16 1#2 2#4
    (fun T => subtypeRomAt T.ctrl 2#4) .control .trigger 1#2 11#6 ∧
  CellRule .ctrlTack 0x0034#16 1#2 3#4
    (fun T => subtypeRomAt T.ctrl 3#4) .control .tack 1#2 12#6 ∧
  CellRule .ctrlBeamformingReportPoll 0x0044#16 1#2 4#4
    (fun T => subtypeRomAt T.ctrl 4#4) .control .beamformingReportPoll 1#2 13#6 ∧
  CellRule .ctrlNdpAnnouncement 0x0054#16 1#2 5#4
    (fun T => subtypeRomAt T.ctrl 5#4) .control .ndpAnnouncement 1#2 14#6 ∧
  CellRule .ctrlControlFrameExtension 0x0064#16 1#2 6#4
    (fun T => subtypeRomAt T.ctrl 6#4) .control .controlFrameExtension 1#2 15#6 ∧
  CellRule .ctrlControlWrapper 0x0074#16 1#2 7#4
    (fun T => subtypeRomAt T.ctrl 7#4) .control .controlWrapper 1#2 16#6

/-- The control rows of sub-types 8 to 15 (43_control_subtypes.md, rules R104 to R111): for each, the words that select it,
the bytes that carry it, and the next state of its execution, completing for every operand whenever the tables hold its
cell. The cell is a premise, as D1 asks of cells that the source does not anchor (log 1); the caller's advance in the next
state is the model's choice (log 2). -/
def Obligations.ControlCellsEightToFifteen : Prop :=
  CellRule .ctrlBlockAckRequest 0x0084#16 1#2 8#4
    (fun T => subtypeRomAt T.ctrl 8#4) .control .blockAckRequest 1#2 17#6 ∧
  CellRule .ctrlBlockAck 0x0094#16 1#2 9#4
    (fun T => subtypeRomAt T.ctrl 9#4) .control .blockAck 1#2 18#6 ∧
  CellRule .ctrlPsPoll 0x00A4#16 1#2 10#4
    (fun T => subtypeRomAt T.ctrl 10#4) .control .psPoll 1#2 19#6 ∧
  CellRule .ctrlRts 0x00B4#16 1#2 11#4
    (fun T => subtypeRomAt T.ctrl 11#4) .control .rts 1#2 20#6 ∧
  CellRule .ctrlCts 0x00C4#16 1#2 12#4
    (fun T => subtypeRomAt T.ctrl 12#4) .control .cts 1#2 21#6 ∧
  CellRule .ctrlAck 0x00D4#16 1#2 13#4
    (fun T => subtypeRomAt T.ctrl 13#4) .control .ack 1#2 22#6 ∧
  CellRule .ctrlCfEnd 0x00E4#16 1#2 14#4
    (fun T => subtypeRomAt T.ctrl 14#4) .control .cfEnd 1#2 23#6 ∧
  CellRule .ctrlCfEndCfAck 0x00F4#16 1#2 15#4
    (fun T => subtypeRomAt T.ctrl 15#4) .control .cfEndCfAck 1#2 24#6

/-- The data rows of sub-types 0 to 7 (44_data_subtypes.md, rules R112 to R119): for each, the words that select it,
the bytes that carry it, and the next state of its execution, completing for every operand whenever the tables hold its
cell. The cell is a premise, as D1 asks of cells that the source does not anchor (log 1); the caller's advance in the next
state is the model's choice (log 2). -/
def Obligations.DataCellsZeroToSeven : Prop :=
  CellRule .dataData 0x0008#16 2#2 0#4
    (fun T => subtypeRomAt T.data 0#4) .data .data 2#2 25#6 ∧
  CellRule .dataDataCfAck 0x0018#16 2#2 1#4
    (fun T => subtypeRomAt T.data 1#4) .data .dataCfAck 2#2 26#6 ∧
  CellRule .dataDataCfPoll 0x0028#16 2#2 2#4
    (fun T => subtypeRomAt T.data 2#4) .data .dataCfPoll 2#2 27#6 ∧
  CellRule .dataDataCfAckCfPoll 0x0038#16 2#2 3#4
    (fun T => subtypeRomAt T.data 3#4) .data .dataCfAckCfPoll 2#2 28#6 ∧
  CellRule .dataNullData 0x0048#16 2#2 4#4
    (fun T => subtypeRomAt T.data 4#4) .data .nullData 2#2 29#6 ∧
  CellRule .dataCfAck 0x0058#16 2#2 5#4
    (fun T => subtypeRomAt T.data 5#4) .data .cfAck 2#2 30#6 ∧
  CellRule .dataCfPoll 0x0068#16 2#2 6#4
    (fun T => subtypeRomAt T.data 6#4) .data .cfPoll 2#2 31#6 ∧
  CellRule .dataCfAckCfPoll 0x0078#16 2#2 7#4
    (fun T => subtypeRomAt T.data 7#4) .data .cfAckCfPoll 2#2 32#6

/-- The data rows of sub-types 8 to 15 (44_data_subtypes.md, rules R120 to R127): for each, the words that select it,
the bytes that carry it, and the next state of its execution, completing for every operand whenever the tables hold its
cell. The cell is a premise, as D1 asks of cells that the source does not anchor (log 1); the caller's advance in the next
state is the model's choice (log 2). -/
def Obligations.DataCellsEightToFifteen : Prop :=
  CellRule .dataQoS 0x0088#16 2#2 8#4
    (fun T => subtypeRomAt T.data 8#4) .data .qos 2#2 33#6 ∧
  CellRule .dataQoSDataCfAck 0x0098#16 2#2 9#4
    (fun T => subtypeRomAt T.data 9#4) .data .qosDataCfAck 2#2 34#6 ∧
  CellRule .dataQoSDataCfPoll 0x00A8#16 2#2 10#4
    (fun T => subtypeRomAt T.data 10#4) .data .qosDataCfPoll 2#2 35#6 ∧
  CellRule .dataQoSDataCfAckCfPoll 0x00B8#16 2#2 11#4
    (fun T => subtypeRomAt T.data 11#4) .data .qosDataCfAckCfPoll 2#2 36#6 ∧
  CellRule .dataQoSNull 0x00C8#16 2#2 12#4
    (fun T => subtypeRomAt T.data 12#4) .data .qosNull 2#2 37#6 ∧
  CellRule .dataReserved13 0x00D8#16 2#2 13#4
    (fun T => subtypeRomAt T.data 13#4) .data .reserved 2#2 40#6 ∧
  CellRule .dataQoSCfPoll 0x00E8#16 2#2 14#4
    (fun T => subtypeRomAt T.data 14#4) .data .qosCfPoll 2#2 38#6 ∧
  CellRule .dataQoSCfAckCfPoll 0x00F8#16 2#2 15#4
    (fun T => subtypeRomAt T.data 15#4) .data .qosCfAckCfPoll 2#2 39#6

/-- The six cells that the source itself fixes (rules R88, R96, R97, R107, R120, R125): the default table holds the member,
and the row decodes, encodes and executes as its rule says. -/
def Obligations.SourceFixedCellsClassify : Prop :=
  SourceCellRule .mgmtBeacon 0x0080#16 0#2 8#4
    (fun T => subtypeRomAt T.mgmt 8#4) .management .beacon 6#6 ∧
  SourceCellRule .ctrlReserved0 0x0004#16 1#2 0#4
    (fun T => subtypeRomAt T.ctrl 0#4) .control .reserved 40#6 ∧
  SourceCellRule .ctrlReserved1 0x0014#16 1#2 1#4
    (fun T => subtypeRomAt T.ctrl 1#4) .control .reserved 40#6 ∧
  SourceCellRule .ctrlRts 0x00B4#16 1#2 11#4
    (fun T => subtypeRomAt T.ctrl 11#4) .control .rts 20#6 ∧
  SourceCellRule .dataQoS 0x0088#16 2#2 8#4
    (fun T => subtypeRomAt T.data 8#4) .data .qos 33#6 ∧
  SourceCellRule .dataReserved13 0x00D8#16 2#2 13#4
    (fun T => subtypeRomAt T.data 13#4) .data .reserved 40#6

/-- Rule R78: the words of type 3, the bytes, and the effect for every sub-type code: `UnHandled`, with no table read (the
three tables are arbitrary), while the ports still show the code. -/
def Obligations.UnknownTypeRowClassifies : Prop :=
  (∀ fc : FcWord, fc &&& 0x000C#16 = 0x000C#16 →
    typeField fc = 3#2 ∧ decodeWord fc = .unknownUnHandled (subtypeField fc) (versionField fc) (flagsField fc)) ∧
  (∀ s pv fl, encodeBytes (.unknownUnHandled s pv fl) = [byteZeroOfFields pv 3#2 s, fl]) ∧
  ∀ (s : BitVec 4) (pv : BitVec 2) (fl : BitVec 8) (st : State), typeRomAt st.typeRom 3#2 = .unknown →
    ∃ u rem, exec (.unknownUnHandled s pv fl) st = .next u ∧
      u.result = some (.ok rem { protocolVersion := pv, frameType := .unknown, frameSubtype := .unHandled, flags := fl }) ∧
      u.outPorts.fsub = 41#6 ∧ u.outPorts.rawSub = s

/-- Rules R74 to R77: TYPE_ROM after power-up, and for each type code what a window with that code gives and which table it
selects. -/
def Obligations.TypeCodesClassify : Prop :=
  SourceTypeRom State.reset.typeRom ∧
  TypeRule 0x0000#16 0#2 .management (fun T s => subtypeRomAt T.mgmt s) ∧
  TypeRule 0x0004#16 1#2 .control (fun T s => subtypeRomAt T.ctrl s) ∧
  TypeRule 0x0008#16 2#2 .data (fun T s => subtypeRomAt T.data s) ∧
  TypeRule 0x000C#16 3#2 .unknown (fun _ _ => .unHandled)

/-- Rule R79: the dispatch reads the table of the classified type. -/
def Obligations.SubtypeDispatchByClassifiedType : Prop :=
  ∀ (T : SubtypeTables) (s : BitVec 4),
    subtype T .management s = subtypeRomAt T.mgmt s ∧ subtype T .control s = subtypeRomAt T.ctrl s ∧
    subtype T .data s = subtypeRomAt T.data s ∧ subtype T .unknown s = .unHandled

/-- The default contents of SUBTYPE_TABLES, cell by cell in the order of 30_encoding.md section 3. Most cells are the spec's
own decision from general knowledge, PRESUMED here (log 1). -/
def Obligations.DefaultSubtypeTables : Prop :=
  State.reset.tables.mgmt.toList =
    [.associationRequest, .associationResponse, .reassociationRequest, .reassociationResponse, .probeRequest,
     .probeResponse, .unHandled, .reserved, .beacon, .atim, .disassociation, .authentication, .deauthentication,
     .unHandled, .unHandled, .reserved] ∧
  State.reset.tables.ctrl.toList =
    [.reserved, .reserved, .trigger, .tack, .beamformingReportPoll, .ndpAnnouncement, .controlFrameExtension,
     .controlWrapper, .blockAckRequest, .blockAck, .psPoll, .rts, .cts, .ack, .cfEnd, .cfEndCfAck] ∧
  State.reset.tables.data.toList =
    [.data, .dataCfAck, .dataCfPoll, .dataCfAckCfPoll, .nullData, .cfAck, .cfPoll, .cfAckCfPoll, .qos, .qosDataCfAck,
     .qosDataCfPoll, .qosDataCfAckCfPoll, .qosNull, .reserved, .qosCfPoll, .qosCfAckCfPoll]

/-- Under the spec's tables, a successful invocation gives `Reserved` on exactly the five reserved cells and `UnHandled` on
exactly the catch-all cells, and both complete like any other (30_encoding.md section 3; D17 and D18 are the spec's own
decisions, so the tables are a premise; log 1). -/
def Obligations.ReservedAndUnHandledCells : Prop :=
  ∀ (st : State) (b0 b1 : Byte) (rest : List Byte), st.hold = .held → SpecTables st → windowOf st = b0 :: b1 :: rest →
    ∃ u rec, step st = .next u ∧ u.result = some (.ok rest rec) ∧
      (rec.frameSubtype = .reserved ↔
        (typeField (wordOfBytes b0 b1), subtypeField (wordOfBytes b0 b1)) ∈
          [(0#2, 7#4), (0#2, 15#4), (1#2, 0#4), (1#2, 1#4), (2#2, 13#4)]) ∧
      (rec.frameSubtype = .unHandled ↔
        typeField (wordOfBytes b0 b1) = 3#2 ∨
        (typeField (wordOfBytes b0 b1), subtypeField (wordOfBytes b0 b1)) ∈ [(0#2, 6#4), (0#2, 13#4), (0#2, 14#4)])

/-- The worked examples of the source (95_test_vectors.md S6 to S9), for any state whose tables hold the cells the source
fixes, wherever the window lies. -/
def Obligations.SourceExamplesDecode : Prop :=
  ∀ st : State, st.hold = .held → SourceTypeRom st.typeRom → SourceFixedCells st.tables →
    (windowOf st = [0x80#8, 0x00#8] → ∃ u, step st = .next u ∧ u.result = some (.ok [] ⟨0#2, .management, .beacon, 0x00#8⟩)) ∧
    (windowOf st = [0xB4#8, 0x01#8] → ∃ u, step st = .next u ∧ u.result = some (.ok [] ⟨0#2, .control, .rts, 0x01#8⟩)) ∧
    (windowOf st = [0x88#8, 0xFF#8] → ∃ u, step st = .next u ∧ u.result = some (.ok [] ⟨0#2, .data, .qos, 0xFF#8⟩)) ∧
    (windowOf st = [0x00#8] → ∃ u, step st = .next u ∧ u.result = some (.err .insufficientData))

/-- Rule R64, with rule R65 and rule R71: on held inputs the machine of 49 rows returns what the pseudocode of DECODE
returns for the window, under any tables, and changes no table. -/
def Obligations.MachineRunsDecodePseudocode : Prop :=
  ∀ st : State, st.hold = .held →
    ∃ u, step st = .next u ∧ u.result = some (decodeWindow st.typeRom st.tables (windowOf st)) ∧
      u.typeRom = st.typeRom ∧ u.tables = st.tables

/-- Rule R72: fewer than 2 bytes. The result is `Err(InsufficientData)`, the caller receives no record and its position does
not move, and at the ports `ok` = 0, `err_insuf` = 1, `consumed` = 0 and every field output is 0. -/
def Obligations.ShortWindowGivesInsufficientData : Prop :=
  ∀ st : State, st.hold = .held → (windowOf st).length < 2 →
    ∃ u, step st = .next u ∧ u.result = some (.err .insufficientData) ∧ u.records = st.records ∧ u.pos = st.pos ∧
      u.outPorts =
        { ok := false, errInsuf := true, consumed := 0#2, pvO := 0#2, ftype := 0#2, fsub := 0#6, flagsO := 0#8,
          rawType := 0#2, rawSub := 0#4 }

/-- Rule R67: the length alone decides between `Err` and `Ok`. -/
def Obligations.LengthAloneDecidesSuccess : Prop :=
  ∀ st : State, st.hold = .held →
    ∃ u, step st = .next u ∧
      (u.result = some (.err .insufficientData) ↔ (windowOf st).length < 2) ∧
      ((∃ rem rec, u.result = some (.ok rem rec)) ↔ 2 ≤ (windowOf st).length)

/-- Rule R33 and rule R70: on success the remainder is the window without its first two bytes, in order, `consumed` = 2, and
the remainder is the caller's own buffer advanced by `consumed`; on failure there is no remainder and the position stays. -/
def Obligations.RemainderIsTheRestOfTheWindow : Prop :=
  ∀ st : State, st.hold = .held →
    (2 ≤ (windowOf st).length → ∃ u rem rec, step st = .next u ∧ u.result = some (.ok rem rec) ∧
      (∀ k, rem[k]? = (windowOf st)[k + 2]?) ∧ u.outPorts.consumed = 2#2 ∧
      rem = bytesFrom st.mem (st.pos + u.outPorts.consumed.toNat)) ∧
    ((windowOf st).length < 2 → ∃ u, step st = .next u ∧ (∀ rem rec, u.result ≠ some (.ok rem rec)) ∧ u.pos = st.pos)

/-- The caller's side of a step, the model's choice (log 2): it advances by `consumed` and appends the record it received, so
that its next window is the remainder; after a failure its position, its window and its records are as before. -/
def Obligations.StepMakesTheCallersAdvance : Prop :=
  ∀ st : State, st.hold = .held →
    ∃ u, step st = .next u ∧ u.pos = st.pos + u.outPorts.consumed.toNat ∧
      (∀ rem rec, u.result = some (.ok rem rec) → windowOf u = rem ∧ u.records = st.records ++ [rec]) ∧
      (u.result = some (.err .insufficientData) → windowOf u = windowOf st ∧ u.records = st.records)

/-- Rule R154: every invocation completes. On held inputs, whatever the rest of the state, there is a next state and so no
fault and no refusal. -/
def Obligations.EveryInvocationCompletes : Prop :=
  ∀ st : State, st.hold = .held →
    (∃ u, step st = .next u) ∧ (∀ f, step st ≠ .fault f) ∧ ∀ r, step st ≠ .refused r

/-- The only step with no next state is the one whose window changes under it, which the spec refuses
(93_implementation_defined.md I7, log 7); no step faults (log 11). -/
def Obligations.OnlyAChangingWindowIsRefused : Prop :=
  (∀ (st : State) (r : Refusal), step st = .refused r ↔ st.hold = .windowChanging ∧ r = .windowChanging) ∧
  ∀ (st : State) (f : Fault), step st ≠ .fault f

/-- A sample taken while the inputs change (93_implementation_defined.md I6) completes, and the caller has observed nothing:
only the ports and the model's counter may change; the ports are free values (log 6). -/
def Obligations.MovingSampleObservesNothing : Prop :=
  ∀ st : State, st.hold = .portsMoving →
    ∃ pi po, step st = .next { st with inPorts := pi, outPorts := po, draws := st.draws + 1 }

/-- Rule R32: with at least two bytes, the outputs and the record depend on the first two alone; with fewer, the result and the
outputs depend on nothing of the bytes. -/
def Obligations.ResultDependsOnFirstTwoBytes : Prop :=
  ∀ s1 s2 : State, s1.hold = .held → s2.hold = .held → s1.typeRom = s2.typeRom → s1.tables = s2.tables →
    (∀ b0 b1 r1 r2, windowOf s1 = b0 :: b1 :: r1 → windowOf s2 = b0 :: b1 :: r2 →
      ∃ u1 u2 rec, step s1 = .next u1 ∧ step s2 = .next u2 ∧ u1.outPorts = u2.outPorts ∧
        u1.result = some (.ok r1 rec) ∧ u2.result = some (.ok r2 rec)) ∧
    ((windowOf s1).length < 2 → (windowOf s2).length < 2 →
      ∃ u1 u2, step s1 = .next u1 ∧ step s2 = .next u2 ∧ u1.outPorts = u2.outPorts ∧ u1.result = u2.result)

/-- Rule R155: the same window under the same tables gives the same result and the same outputs, whatever was evaluated before:
the position, the rest of memory, the ports, the last result, the records and the counter may all differ. -/
def Obligations.HistoryDoesNotMatter : Prop :=
  ∀ s1 s2 : State, s1.hold = .held → s2.hold = .held → s1.typeRom = s2.typeRom → s1.tables = s2.tables →
    windowOf s1 = windowOf s2 →
    ∃ u1 u2, step s1 = .next u1 ∧ step s2 = .next u2 ∧ u1.result = u2.result ∧ u1.outPorts = u2.outPorts

/-- Rule R40: an invocation reads without side effect, and repeated on the same window gives the same result. -/
def Obligations.RepeatedInvocationGivesTheSameResult : Prop :=
  ∀ st u : State, step st = .next u →
    u.mem = st.mem ∧ (∀ a, readByte u.mem a = readByte st.mem a) ∧
    (st.hold = .held →
      ∃ v, step { u with pos := st.pos } = .next v ∧ v.result = u.result ∧ v.outPorts = u.outPorts ∧ v.mem = st.mem)

/-- No step writes memory, a table or the caller's hold (20_memory.md sections 3 and 5; 10_state.md section 2: "No port,
invocation or reset changes them"). -/
def Obligations.StepKeepsMemoryAndTables : Prop :=
  ∀ st u : State, step st = .next u →
    u.mem = st.mem ∧ (∀ a, readByte u.mem a = readByte st.mem a) ∧ u.typeRom = st.typeRom ∧ u.tables = st.tables ∧
      u.hold = st.hold

/-- A failure leaves nothing behind (60_exceptions.md sections 2 and 4): the step changes the ports and the result alone (and
the model's counter, log 5), and whatever memory the caller then provides, the next invocation at the same position returns
what DECODE returns for the new window. -/
def Obligations.FailureLeavesNothingBehind : Prop :=
  ∀ (st : State) (m : Memory), st.hold = .held → (windowOf st).length < 2 →
    ∃ u v, step st = .next u ∧
      u = { st with
        inPorts := u.inPorts, outPorts := u.outPorts, result := some (.err .insufficientData), draws := st.draws + 1 } ∧
      step { u with mem := m } = .next v ∧
      v.result = some (decodeWindow st.typeRom st.tables (bytesFrom m st.pos))

/-- The protocol version passes through unchecked: two windows that differ in those two bits alone are classified alike, and
each record holds its own bits (40_decode.md section 3, which the spec derives from the single kind of error). -/
def Obligations.VersionPassesThroughUnchecked : Prop :=
  ∀ (s1 s2 : State) (b0 b0' b1 : Byte) (rest : List Byte), s1.hold = .held → s2.hold = .held →
    s1.typeRom = s2.typeRom → s1.tables = s2.tables →
    windowOf s1 = b0 :: b1 :: rest → windowOf s2 = b0' :: b1 :: rest → b0 >>> 2 = b0' >>> 2 →
    ∃ u1 u2 r1 r2, step s1 = .next u1 ∧ step s2 = .next u2 ∧ u1.result = some (.ok rest r1) ∧ u2.result = some (.ok rest r2) ∧
      r1.protocolVersion = b0.extractLsb' 0 2 ∧ r2.protocolVersion = b0'.extractLsb' 0 2 ∧
      r2 = { r1 with protocolVersion := r2.protocolVersion }

/-- The flags byte passes through whole to the record and to the port `flags_o`, and no bit of it affects any other field or
port (10_state.md rule R20, 40_decode.md section 3; the ports are the spec's own realisation, D3, log 12). -/
def Obligations.FlagsPassThroughUninterpreted : Prop :=
  ∀ (s1 s2 : State) (b0 b1 b1' : Byte) (rest : List Byte), s1.hold = .held → s2.hold = .held →
    s1.typeRom = s2.typeRom → s1.tables = s2.tables →
    windowOf s1 = b0 :: b1 :: rest → windowOf s2 = b0 :: b1' :: rest →
    ∃ u1 u2 r1 r2, step s1 = .next u1 ∧ step s2 = .next u2 ∧ u1.result = some (.ok rest r1) ∧ u2.result = some (.ok rest r2) ∧
      r1.flags = b1 ∧ r2.flags = b1' ∧ r2 = { r1 with flags := b1' } ∧
      u1.outPorts.flagsO = b1 ∧ u2.outPorts = { u1.outPorts with flagsO := b1' }

/-- After every invocation the nine ports are the equations of 40_decode.md section 1 over the three inputs, and the inputs are
the window's (10_state.md section 3). The ports are the spec's own realisation (D3, D6, D11). -/
def Obligations.MachineObeysThePortEquations : Prop :=
  ∀ st : State, st.hold = .held →
    ∃ u, step st = .next u ∧ u.outPorts = portEquations u.typeRom u.tables u.inPorts ∧
      u.inPorts.inCnt = BitVec.ofNat 2 (min (windowOf st).length 3) ∧
      (∀ b, (windowOf st)[0]? = some b → u.inPorts.inB0 = b) ∧ (∀ b, (windowOf st)[1]? = some b → u.inPorts.inB1 = b)

/-- The port realisation and the abstract function agree: for every window, every content of the tables and ANY bytes on the
ports the window has no byte for, the port equations show exactly the result of DECODE (10_state.md section 3 and
40_decode.md section 1; the spec derives this; D3). -/
def Obligations.PortsRealiseTheAbstractFunction : Prop :=
  ∀ (rom : Vector FrameType 4) (T : SubtypeTables) (w : List Byte) (p : InPorts),
    p.inCnt = BitVec.ofNat 2 (min w.length 3) →
    (∀ b, w[0]? = some b → p.inB0 = b) → (∀ b, w[1]? = some b → p.inB1 = b) →
    portsCorrespond w (decodeWindow rom T w) (portEquations rom T p) ∧
    ((portEquations rom T p).ok = false ↔ decodeWindow rom T w = .err .insufficientData)

/-- With fewer than two bytes on the count, the byte inputs have no effect and every field output is 0; the counts 2 and 3 mean
the same (10_state.md section 3, 30_encoding.md section 4; the spec's decisions D2, D11, D22). -/
def Obligations.UnavailableBytesHaveNoEffect : Prop :=
  ∀ (rom : Vector FrameType 4) (T : SubtypeTables) (b0 b1 : Byte),
    portEquations rom T ⟨b0, b1, 0#2⟩ = failurePorts ∧ portEquations rom T ⟨b0, b1, 1#2⟩ = failurePorts ∧
    portEquations rom T ⟨b0, b1, 2#2⟩ = portEquations rom T ⟨b0, b1, 3#2⟩ ∧
    (portEquations rom T ⟨b0, b1, 2#2⟩).ok = true ∧
    failurePorts = ⟨false, true, 0#2, 0#2, 0#2, 0#6, 0#8, 0#2, 0#4⟩

/-- After every invocation, under any tables, the output levels are well-formed: `err_insuf` is the complement of `ok`,
`consumed` is 2 or 0, every field is 0 on failure, and `fsub` is never one of 42 to 63 (10_state.md section 3, 30_encoding.md
section 4; the spec's decisions D3, D5, D11). -/
def Obligations.OutputLevelsAreWellFormed : Prop :=
  ∀ st : State, st.hold = .held →
    ∃ u, step st = .next u ∧ u.outPorts.errInsuf = !u.outPorts.ok ∧
      u.outPorts.consumed = (if u.outPorts.ok then 2#2 else 0#2) ∧
      (u.outPorts.ok = false → u.outPorts.pvO = 0#2 ∧ u.outPorts.ftype = 0#2 ∧ u.outPorts.fsub = 0#6 ∧
        u.outPorts.flagsO = 0#8 ∧ u.outPorts.rawType = 0#2 ∧ u.outPorts.rawSub = 0#4) ∧
      u.outPorts.fsub.toNat < 42

/-- Under the source's TYPE_ROM the port `ftype` shows the type code whenever `ok` = 1 (30_encoding.md section 4; the codes are
the spec's decision D4). -/
def Obligations.FtypeShowsTheTypeCode : Prop :=
  ∀ (st : State) (b0 b1 : Byte) (rest : List Byte), st.hold = .held → SourceTypeRom st.typeRom →
    windowOf st = b0 :: b1 :: rest →
    ∃ u, step st = .next u ∧ u.outPorts.ok = true ∧ u.outPorts.ftype = b0.extractLsb' 2 2 ∧
      u.outPorts.rawType = u.outPorts.ftype

/-- The codes of the 42 members on `fsub` in the order of 30_encoding.md section 4 (D5): the list has every member once, each
code is the member's place in it, and the codes 42 to 63 stand for none. -/
def Obligations.SubtypeCodesAreTheListOrder : Prop :=
  frameSubTypeList.length = 42 ∧ frameSubTypeList.Nodup ∧ (∀ fs, fs ∈ frameSubTypeList) ∧
  (∀ fs, frameSubTypeList[(frameSubTypeCode fs).toNat]? = some fs) ∧
  ∀ c : BitVec 6, 42 ≤ c.toNat ↔ frameSubTypeOfCode c = none

/-- A consumer that reads the output ports after an invocation gets the record when there is one, and after a failure is told
that none exists (10_state.md section 3; D3, D11; 93_implementation_defined.md I8, log 14). -/
def Obligations.ConsumerReadsBackTheRecord : Prop :=
  ∀ st : State, st.hold = .held →
    ∃ u, step st = .next u ∧
      (∀ rem rec, u.result = some (.ok rem rec) → recordOfPorts u.outPorts = .ok rec) ∧
      (u.result = some (.err .insufficientData) → recordOfPorts u.outPorts = .error .noRecord)

/-- In a memory in canonical form the window at ANY position, odd or even, is the run of bytes the memory lists from there
(20_memory.md sections 1 and 3; the spec's decision D7, log 4), up to the first address with no byte. -/
def Obligations.WindowIsTheRunOfListedBytes : Prop :=
  ∀ st : State, memoryWf st.mem →
    (∀ k, k < (windowOf st).length → (windowOf st)[k]? = readByte st.mem (st.pos + k)) ∧
    readByte st.mem (st.pos + (windowOf st).length) = none

/-- A caller that walks a window of back-to-back instructions receives their classifications in order: after as many
invocations as there are instructions, all of which complete, the records received are theirs, the position is past them,
and a lone trailing byte or none then gives `InsufficientData` (95_test_vectors.md section 3; log 2). -/
def Obligations.StreamOfWordsIsDecodedInOrder : Prop :=
  ∀ (is : List Instr) (tail : List Byte) (st : State), st.hold = .held → tail.length < 2 →
    windowOf st = is.flatMap encodeBytes ++ tail →
    ∃ u v, stepsTo is.length st u ∧ u.pos = st.pos + 2 * is.length ∧ windowOf u = tail ∧
      u.records = st.records ++ is.map (fun i =>
        assembleRecord st.typeRom st.tables (typeField (encode i)) (subtypeField (encode i)) (versionField (encode i))
          (flagsField (encode i))) ∧
      step u = .next v ∧ v.result = some (.err .insufficientData) ∧ v.records = u.records ∧ v.pos = u.pos

/-- The state at power-up (10_state.md section 4, which the spec derives): the tables hold their contents, and the outputs are
already the function of the inputs. The caller's side is the model's choice (log 9). -/
def Obligations.ResetState : Prop :=
  SpecTables State.reset ∧
  State.reset.outPorts = portEquations State.reset.typeRom State.reset.tables State.reset.inPorts ∧
  windowOf State.reset = []

/-- The invariant holds at reset. It covers the caller's side as the model chose it (log 9). -/
def Obligations.InvariantHoldsAtReset : Prop := Inv State.reset

/-- Every step keeps the invariant: the memory's canonical form, outputs that are the function of the inputs and the tables, the
last remainder equal to the window at the advanced position, and the last record collected. The last two clauses rest on the
step making the caller's advance, the model's choice (log 2). -/
def Obligations.EveryStepKeepsTheInvariant : Prop :=
  ∀ st u : State, Inv st → step st = .next u → Inv u
end

