-- ==== Sys2Proof/Laws/Decode.lean ====
section
/-!
SUPPORT. The fields of a word built from fields (spec 30_encoding.md rule R50, rule R63).
-/
namespace Sys2Proof.Laws

/-- The two bytes of a word assembled back give the word (rule R34). -/
theorem wordOfBytes_extract (fc : FcWord) : wordOfBytes (fc.extractLsb' 0 8) (fc.extractLsb' 8 8) = fc := by
  ext i hi
  simp only [wordOfBytes, BitVec.getElem_or, BitVec.getElem_setWidth, BitVec.getElem_shiftLeft]
  by_cases h : i < 8 <;> simp [h, show i - 8 < 8 by omega] <;> grind

theorem extract_low_wordOfBytes (b0 b1 : Byte) : (wordOfBytes b0 b1).extractLsb' 0 8 = b0 := by
  ext i hi
  simp [wordOfBytes, hi, show i < 16 by omega]

theorem extract_high_wordOfBytes (b0 b1 : Byte) : (wordOfBytes b0 b1).extractLsb' 8 8 = b1 := by
  ext i hi
  simp [wordOfBytes, hi, show 8 + i < 16 by omega]

/-- The bits of a row word: the pattern string read from its least significant end. -/
theorem getLsbD_rowWord (fl : BitVec 8) (c : BitVec 6) (pv : BitVec 2) (i : Nat) :
    (rowWord fl c pv).getLsbD i =
      if i < 2 then pv.getLsbD i else if i - 2 < 6 then c.getLsbD (i - 2) else fl.getLsbD (i - 2 - 6) := by
  show BitVec.getLsbD ((fl ++ c) ++ pv : BitVec (8 + 6 + 2)) i = _
  rw [BitVec.getLsbD_append]
  split
  · rfl
  · rw [BitVec.getLsbD_append]

/-- The bits of a 6-bit selector made of a sub-type code and a type code. -/
theorem getLsbD_selector (s : BitVec 4) (t : BitVec 2) (i : Nat) :
    BitVec.getLsbD (s ++ t : BitVec 6) i = if i < 2 then t.getLsbD i else s.getLsbD (i - 2) := by
  show BitVec.getLsbD (s ++ t : BitVec (4 + 2)) i = _
  rw [BitVec.getLsbD_append]

@[simp] theorem versionField_rowWord (fl : BitVec 8) (c : BitVec 6) (pv : BitVec 2) :
    versionField (rowWord fl c pv) = pv := by
  apply BitVec.eq_of_getLsbD_eq
  intro i hi
  simp [versionField, getLsbD_rowWord, hi]

@[simp] theorem typeField_rowWord (fl : BitVec 8) (c : BitVec 6) (pv : BitVec 2) :
    typeField (rowWord fl c pv) = c.extractLsb' 0 2 := by
  apply BitVec.eq_of_getLsbD_eq
  intro i hi
  rw [typeField, BitVec.getLsbD_extractLsb', BitVec.getLsbD_extractLsb', getLsbD_rowWord]
  interval_cases i <;> simp

@[simp] theorem subtypeField_rowWord (fl : BitVec 8) (c : BitVec 6) (pv : BitVec 2) :
    subtypeField (rowWord fl c pv) = c.extractLsb' 2 4 := by
  apply BitVec.eq_of_getLsbD_eq
  intro i hi
  rw [subtypeField, BitVec.getLsbD_extractLsb', BitVec.getLsbD_extractLsb', getLsbD_rowWord]
  interval_cases i <;> simp

@[simp] theorem flagsField_rowWord (fl : BitVec 8) (c : BitVec 6) (pv : BitVec 2) :
    flagsField (rowWord fl c pv) = fl := by
  apply BitVec.eq_of_getLsbD_eq
  intro i hi
  rw [flagsField, BitVec.getLsbD_extractLsb', getLsbD_rowWord]
  interval_cases i <;> simp

/-- Masking a word with 0x00FC keeps the six bits that select the row and clears its operands (rule R52). -/
theorem rowWord_and_mask (fl : BitVec 8) (c : BitVec 6) (pv : BitVec 2) :
    rowWord fl c pv &&& 0x00FC#16 = rowWord 0#8 c 0#2 := by
  apply BitVec.eq_of_getLsbD_eq
  intro i hi
  rw [BitVec.getLsbD_and, getLsbD_rowWord, getLsbD_rowWord]
  interval_cases i <;> simp

/-- The same for the type-3 mask 0x000C, which keeps the type bits alone. -/
theorem rowWord_and_type_mask (fl : BitVec 8) (s : BitVec 4) (t : BitVec 2) (pv : BitVec 2) :
    rowWord fl (s ++ t) pv &&& 0x000C#16 = rowWord 0#8 (0#4 ++ t) 0#2 := by
  apply BitVec.eq_of_getLsbD_eq
  intro i hi
  rw [BitVec.getLsbD_and, getLsbD_rowWord, getLsbD_rowWord, getLsbD_selector, getLsbD_selector]
  interval_cases i <;> simp

/-- Every word is a row word of its own fields. -/
theorem rowWord_of_fields (fc : FcWord) :
    rowWord (flagsField fc) (subtypeField fc ++ typeField fc) (versionField fc) = fc := by
  apply BitVec.eq_of_getLsbD_eq
  intro i hi
  rw [getLsbD_rowWord, getLsbD_selector]
  simp only [flagsField, subtypeField, typeField, versionField, BitVec.getLsbD_extractLsb']
  interval_cases i <;> simp

end Sys2Proof.Laws
end

