-- ==== Sys2Proof/Laws/State.lean ====
section
/-!
SUPPORT. What each update of State leaves in each field, by definition, so that no proof unfolds a record update.
-/
namespace Sys2Proof.Laws

open Sys2Proof.Machine

@[simp] theorem applyInputs_typeRom (s : State) : (applyInputs s).typeRom = s.typeRom := rfl
@[simp] theorem applyInputs_tables (s : State) : (applyInputs s).tables = s.tables := rfl
@[simp] theorem applyInputs_mem (s : State) : (applyInputs s).mem = s.mem := rfl
@[simp] theorem applyInputs_pos (s : State) : (applyInputs s).pos = s.pos := rfl
@[simp] theorem applyInputs_hold (s : State) : (applyInputs s).hold = s.hold := rfl
@[simp] theorem applyInputs_inPorts (s : State) : (applyInputs s).inPorts = portInputs (windowOf s) (Config.freePortByte (2 * s.draws)) (Config.freePortByte (2 * s.draws + 1)) := rfl
@[simp] theorem applyInputs_outPorts (s : State) : (applyInputs s).outPorts = s.outPorts := rfl
@[simp] theorem applyInputs_result (s : State) : (applyInputs s).result = s.result := rfl
@[simp] theorem applyInputs_records (s : State) : (applyInputs s).records = s.records := rfl
@[simp] theorem applyInputs_draws (s : State) : (applyInputs s).draws = s.draws + 1 := rfl

@[simp] theorem returnOk_typeRom (r : FrameControl) (t : BitVec 2) (c : BitVec 4) (s : State) : (returnOk r t c s).typeRom = s.typeRom := rfl
@[simp] theorem returnOk_tables (r : FrameControl) (t : BitVec 2) (c : BitVec 4) (s : State) : (returnOk r t c s).tables = s.tables := rfl
@[simp] theorem returnOk_mem (r : FrameControl) (t : BitVec 2) (c : BitVec 4) (s : State) : (returnOk r t c s).mem = s.mem := rfl
@[simp] theorem returnOk_pos (r : FrameControl) (t : BitVec 2) (c : BitVec 4) (s : State) : (returnOk r t c s).pos = s.pos + 2 := rfl
@[simp] theorem returnOk_hold (r : FrameControl) (t : BitVec 2) (c : BitVec 4) (s : State) : (returnOk r t c s).hold = s.hold := rfl
@[simp] theorem returnOk_inPorts (r : FrameControl) (t : BitVec 2) (c : BitVec 4) (s : State) : (returnOk r t c s).inPorts = s.inPorts := rfl
@[simp] theorem returnOk_outPorts (r : FrameControl) (t : BitVec 2) (c : BitVec 4) (s : State) : (returnOk r t c s).outPorts = successPorts r t c := rfl
@[simp] theorem returnOk_result (r : FrameControl) (t : BitVec 2) (c : BitVec 4) (s : State) : (returnOk r t c s).result = some (.ok ((windowOf s).drop 2) r) := rfl
@[simp] theorem returnOk_records (r : FrameControl) (t : BitVec 2) (c : BitVec 4) (s : State) : (returnOk r t c s).records = s.records ++ [r] := rfl
@[simp] theorem returnOk_draws (r : FrameControl) (t : BitVec 2) (c : BitVec 4) (s : State) : (returnOk r t c s).draws = s.draws := rfl

@[simp] theorem raiseInsufficientData_typeRom (s : State) : (raiseInsufficientData s).typeRom = s.typeRom := rfl
@[simp] theorem raiseInsufficientData_tables (s : State) : (raiseInsufficientData s).tables = s.tables := rfl
@[simp] theorem raiseInsufficientData_mem (s : State) : (raiseInsufficientData s).mem = s.mem := rfl
@[simp] theorem raiseInsufficientData_pos (s : State) : (raiseInsufficientData s).pos = s.pos := rfl
@[simp] theorem raiseInsufficientData_hold (s : State) : (raiseInsufficientData s).hold = s.hold := rfl
@[simp] theorem raiseInsufficientData_inPorts (s : State) : (raiseInsufficientData s).inPorts = s.inPorts := rfl
@[simp] theorem raiseInsufficientData_outPorts (s : State) : (raiseInsufficientData s).outPorts = failurePorts := rfl
@[simp] theorem raiseInsufficientData_result (s : State) : (raiseInsufficientData s).result = some (.err .insufficientData) := rfl
@[simp] theorem raiseInsufficientData_records (s : State) : (raiseInsufficientData s).records = s.records := rfl
@[simp] theorem raiseInsufficientData_draws (s : State) : (raiseInsufficientData s).draws = s.draws := rfl

@[simp] theorem sampleMovingPorts_typeRom (s : State) : (sampleMovingPorts s).typeRom = s.typeRom := rfl
@[simp] theorem sampleMovingPorts_tables (s : State) : (sampleMovingPorts s).tables = s.tables := rfl
@[simp] theorem sampleMovingPorts_mem (s : State) : (sampleMovingPorts s).mem = s.mem := rfl
@[simp] theorem sampleMovingPorts_pos (s : State) : (sampleMovingPorts s).pos = s.pos := rfl
@[simp] theorem sampleMovingPorts_hold (s : State) : (sampleMovingPorts s).hold = s.hold := rfl
@[simp] theorem sampleMovingPorts_inPorts (s : State) : (sampleMovingPorts s).inPorts = Config.movingInPorts s.draws := rfl
@[simp] theorem sampleMovingPorts_outPorts (s : State) : (sampleMovingPorts s).outPorts = Config.movingOutPorts s.draws := rfl
@[simp] theorem sampleMovingPorts_result (s : State) : (sampleMovingPorts s).result = s.result := rfl
@[simp] theorem sampleMovingPorts_records (s : State) : (sampleMovingPorts s).records = s.records := rfl
@[simp] theorem sampleMovingPorts_draws (s : State) : (sampleMovingPorts s).draws = s.draws + 1 := rfl

@[simp] theorem placeWindow_typeRom (bs : List Byte) (s : State) : (placeWindow bs s).typeRom = s.typeRom := rfl
@[simp] theorem placeWindow_tables (bs : List Byte) (s : State) : (placeWindow bs s).tables = s.tables := rfl
@[simp] theorem placeWindow_mem (bs : List Byte) (s : State) : (placeWindow bs s).mem = writeBytes s.mem s.pos bs := rfl
@[simp] theorem placeWindow_pos (bs : List Byte) (s : State) : (placeWindow bs s).pos = s.pos := rfl
@[simp] theorem placeWindow_hold (bs : List Byte) (s : State) : (placeWindow bs s).hold = .held := rfl
@[simp] theorem placeWindow_inPorts (bs : List Byte) (s : State) : (placeWindow bs s).inPorts = s.inPorts := rfl
@[simp] theorem placeWindow_outPorts (bs : List Byte) (s : State) : (placeWindow bs s).outPorts = s.outPorts := rfl
@[simp] theorem placeWindow_result (bs : List Byte) (s : State) : (placeWindow bs s).result = s.result := rfl
@[simp] theorem placeWindow_records (bs : List Byte) (s : State) : (placeWindow bs s).records = s.records := rfl
@[simp] theorem placeWindow_draws (bs : List Byte) (s : State) : (placeWindow bs s).draws = s.draws := rfl

/-- Applying the inputs moves neither the memory nor the position, so the window stays. -/
@[simp] theorem windowOf_applyInputs (s : State) : windowOf (applyInputs s) = windowOf s := rfl

/-- The same of the failure. -/
@[simp] theorem windowOf_raiseInsufficientData (s : State) : windowOf (raiseInsufficientData s) = windowOf s := rfl

/-- The same of a sample of moving ports. -/
@[simp] theorem windowOf_sampleMovingPorts (s : State) : windowOf (sampleMovingPorts s) = windowOf s := rfl

end Sys2Proof.Laws
end

