-- ==== Sys2Proof/Laws/Memory.lean ====
section
/-!
SUPPORT. The caller's memory: a read after a write, the canonical form, and the window.
-/
namespace Sys2Proof.Laws

open Sys2Proof.Machine

theorem readByte_writeByte_same (m : Memory) (a : Nat) (b : Byte) : readByte (writeByte m a b) a = some b := by
  induction m with
  | nil => simp [writeByte, readByte]
  | cons c m ih =>
    obtain ⟨k, c⟩ := c
    simp only [writeByte]
    split
    · simp [readByte]
    · split
      · simp [readByte]
      · have h : k ≠ a := by omega
        simp [readByte, h, ih]

theorem readByte_writeByte_other (m : Memory) (a a' : Nat) (b : Byte) (h : a' ≠ a) :
    readByte (writeByte m a b) a' = readByte m a' := by
  induction m with
  | nil => simp [writeByte, readByte, h.symm]
  | cons c m ih =>
    obtain ⟨k, c⟩ := c
    simp only [writeByte]
    split
    · simp [readByte, h.symm]
    · split
      · subst k
        simp [readByte, h.symm]
      · simp [readByte, ih]

/-- The addresses after a write are the old ones and the written one. -/
theorem mem_fst_writeByte (m : Memory) (a x : Nat) (b : Byte) (h : x ∈ (writeByte m a b).map Prod.fst) :
    x = a ∨ x ∈ m.map Prod.fst := by
  induction m with
  | nil => simpa [writeByte] using h
  | cons c m ih =>
    obtain ⟨k, c⟩ := c
    simp only [writeByte] at h
    split at h
    · simpa using h
    · split at h
      · rcases List.mem_cons.1 h with h | h
        · exact .inl h
        · exact .inr (List.mem_cons_of_mem _ h)
      · rcases List.mem_cons.1 h with h | h
        · exact .inr (by simp [h])
        · exact (ih h).imp id (List.mem_cons_of_mem _)

theorem memoryWf_cons {k : Nat} {c : Byte} {m : Memory} :
    memoryWf ((k, c) :: m) ↔ (∀ x ∈ m.map Prod.fst, k < x) ∧ memoryWf m := by
  simp only [memoryWf, List.map_cons, List.pairwise_cons]

/-- A write keeps the canonical form. -/
theorem writeByte_wf (m : Memory) (a : Nat) (b : Byte) (h : memoryWf m) : memoryWf (writeByte m a b) := by
  induction m with
  | nil => simp [writeByte, memoryWf]
  | cons c m ih =>
    obtain ⟨k, c⟩ := c
    obtain ⟨hk, hm⟩ := memoryWf_cons.1 h
    simp only [writeByte]
    split
    · rename_i hak
      refine memoryWf_cons.2 ⟨fun x hx => ?_, h⟩
      rcases List.mem_cons.1 hx with hx | hx
      · simpa [hx] using hak
      · exact hak.trans (hk x hx)
    · split
      · subst k
        exact memoryWf_cons.2 ⟨hk, hm⟩
      · refine memoryWf_cons.2 ⟨fun x hx => ?_, ih hm⟩
        rcases mem_fst_writeByte m a x b hx with hx | hx
        · omega
        · exact hk x hx

/-- A sequence of writes keeps the canonical form. -/
theorem writeBytes_wf (m : Memory) (a : Nat) (bs : List Byte) (h : memoryWf m) : memoryWf (writeBytes m a bs) := by
  induction bs generalizing m a with
  | nil => exact h
  | cons b bs ih => exact ih _ _ (writeByte_wf m a b h)

/-- The window from the next address is the window without its first byte. -/
theorem bytesFrom_succ (m : Memory) (a : Nat) (b : Byte) (r : List Byte) (h : bytesFrom m a = b :: r) :
    bytesFrom m (a + 1) = r := by
  induction m with
  | nil => simp [bytesFrom] at h
  | cons c m ih =>
    obtain ⟨k, c⟩ := c
    simp only [bytesFrom] at h ⊢
    split at h
    · rw [if_pos (by omega)]
      exact ih h
    · split at h
      · rw [if_pos (by omega)]
        exact (List.cons.inj h).2
      · simp at h

/-- The window two bytes on is the window without its first two bytes, when it has two. -/
theorem bytesFrom_add_two (m : Memory) (a : Nat) (h : 2 ≤ (bytesFrom m a).length) :
    bytesFrom m (a + 2) = (bytesFrom m a).drop 2 := by
  match hw : bytesFrom m a with
  | [] | [_] => simp [hw] at h
  | b0 :: b1 :: r => exact bytesFrom_succ m (a + 1) b1 r (bytesFrom_succ m a b0 _ hw)

/-- Nothing is listed below the first address of a rising memory. -/
theorem readByte_of_lt (m : Memory) (a : Nat) (h : ∀ x ∈ m.map Prod.fst, a < x) : readByte m a = none := by
  induction m with
  | nil => rfl
  | cons c m ih =>
    obtain ⟨k, c⟩ := c
    have hk : a < k := h k (by simp)
    simp only [readByte, if_neg (show k ≠ a by omega)]
    exact ih fun x hx => h x (List.mem_cons_of_mem _ hx)

/-- In a memory in canonical form the window's bytes are the bytes at its addresses. -/
theorem bytesFrom_get (m : Memory) (hm : memoryWf m) (a i : Nat) (hi : i < (bytesFrom m a).length) :
    (bytesFrom m a)[i]? = readByte m (a + i) := by
  induction m generalizing a i with
  | nil => simp [bytesFrom] at hi
  | cons c m ih =>
    obtain ⟨k, c⟩ := c
    obtain ⟨hk, hm'⟩ := memoryWf_cons.1 hm
    simp only [bytesFrom] at hi ⊢
    split
    · rename_i hka
      rw [if_pos hka] at hi
      rw [ih hm' a i hi, readByte, if_neg (by omega)]
    · split
      · rename_i hka hkae
        subst k
        rw [if_neg hka, if_pos rfl] at hi
        cases i with
        | zero => simp [readByte]
        | succ i =>
          rw [List.getElem?_cons_succ, ih hm' (a + 1) i (by simpa using hi), readByte, if_neg (by omega)]
          congr 1
          omega
      · rename_i h1 h2
        rw [if_neg h1, if_neg h2] at hi
        simp at hi

/-- What a placed byte gives the window, whatever the memory. -/
theorem bytesFrom_writeByte (m : Memory) (a : Nat) (b : Byte) :
    ∃ r, bytesFrom (writeByte m a b) a = b :: r := by
  induction m with
  | nil => exact ⟨_, by simp [writeByte, bytesFrom]; rfl⟩
  | cons c m ih =>
    obtain ⟨k, c⟩ := c
    simp only [writeByte]
    split
    · simp [bytesFrom]
    · split
      · simp [bytesFrom]
      · simpa [bytesFrom, show k < a by omega] using ih

/-- A byte placed next leaves the first byte of the window. -/
theorem bytesFrom_writeByte_next (m : Memory) (a : Nat) (b b' : Byte) (r : List Byte) (h : bytesFrom m a = b :: r) :
    ∃ r', bytesFrom (writeByte m (a + 1) b') a = b :: b' :: r' := by
  induction m with
  | nil => simp [bytesFrom] at h
  | cons c m ih =>
    obtain ⟨k, c⟩ := c
    simp only [bytesFrom] at h
    split at h
    · rename_i hk
      simpa [writeByte, bytesFrom, show ¬ a + 1 < k by omega, show ¬ a + 1 = k by omega, hk] using ih h
    · split at h
      · subst k
        obtain ⟨r', hr'⟩ := bytesFrom_writeByte m (a + 1) b'
        obtain ⟨rfl, -⟩ := List.cons.inj h
        exact ⟨r', by simp [writeByte, bytesFrom, hr']⟩
      · simp at h

/-- Two placed bytes begin the window, whatever the memory. -/
theorem bytesFrom_writeBytes_two (m : Memory) (a : Nat) (b0 b1 : Byte) :
    ∃ r, bytesFrom (writeBytes m a [b0, b1]) a = b0 :: b1 :: r := by
  obtain ⟨r, hr⟩ := bytesFrom_writeByte m a b0
  exact bytesFrom_writeByte_next _ a b0 b1 r hr

end Sys2Proof.Laws
end

