-- ==== Sys2Proof/Laws/Ops.lean ====
section
/-!
SUPPORT. What the shared operations, the dispatch and the step can do, said once.
-/
namespace Sys2Proof.Laws

open Sys2Proof.Machine

/-- A 2-bit code is one of four. -/
theorem typeCode_cases (t : BitVec 2) : t = 0#2 ∨ t = 1#2 ∨ t = 2#2 ∨ t = 3#2 := by
  revert t
  decide

/-- A 4-bit code is one of sixteen. -/
theorem subtypeCode_cases (s : BitVec 4) :
    s = 0#4 ∨ s = 1#4 ∨ s = 2#4 ∨ s = 3#4 ∨ s = 4#4 ∨ s = 5#4 ∨ s = 6#4 ∨ s = 7#4 ∨
      s = 8#4 ∨ s = 9#4 ∨ s = 10#4 ∨ s = 11#4 ∨ s = 12#4 ∨ s = 13#4 ∨ s = 14#4 ∨ s = 15#4 := by
  revert s
  decide

/-- `classifyCell` always completes. -/
theorem classifyCell_next (t : BitVec 2) (s : BitVec 4) (pv : BitVec 2) (fl : BitVec 8) (st : State) :
    classifyCell t s pv fl st = .next (returnOk (assembleRecord st.typeRom st.tables t s pv fl) t s st) := rfl

/-- The row that (t, s) selects has the effect of the cell (t, s). -/
theorem exec_selectRow (t : BitVec 2) (s : BitVec 4) (pv : BitVec 2) (fl : BitVec 8) (st : State) :
    exec (selectRow t s pv fl) st = classifyCell t s pv fl st := by
  rcases typeCode_cases t with rfl | rfl | rfl | rfl
  case inr.inr.inr => rfl
  all_goals
    rcases subtypeCode_cases s with
      rfl | rfl | rfl | rfl | rfl | rfl | rfl | rfl | rfl | rfl | rfl | rfl | rfl | rfl | rfl | rfl <;> rfl

/-- Every instruction has the effect of the cell that its own word selects. -/
theorem exec_classifies (i : Instr) (st : State) :
    exec i st = classifyCell (typeField (encode i)) (subtypeField (encode i)) (versionField (encode i))
      (flagsField (encode i)) st := by
  cases i <;> simp only [encode, typeField_rowWord, subtypeField_rowWord, versionField_rowWord, flagsField_rowWord]
  case unknownUnHandled s pv fl =>
    have h1 : BitVec.extractLsb' 0 2 (s ++ 0b11#2 : BitVec 6) = 0b11#2 := by
      revert s
      decide
    have h2 : BitVec.extractLsb' 2 4 (s ++ 0b11#2 : BitVec 6) = s := by
      revert s
      decide
    rw [h1, h2]
    rfl
  all_goals rfl

/-- No instruction changes the tables, the memory, the caller's hold, the input ports or the counter of free values. -/
theorem exec_frame (i : Instr) (s t : State) (h : exec i s = .next t) :
    t.typeRom = s.typeRom ∧ t.tables = s.tables ∧ t.mem = s.mem ∧ t.hold = s.hold ∧ t.inPorts = s.inPorts ∧
      t.draws = s.draws := by
  rw [exec_classifies, classifyCell_next] at h
  cases h
  simp

/-- A step on held inputs with two bytes in the window. -/
theorem step_of_two_bytes (s : State) (hh : s.hold = .held) (b0 b1 : Byte) (rest : List Byte)
    (hw : windowOf s = b0 :: b1 :: rest) :
    step s = classifyCell (typeField (wordOfBytes b0 b1)) (subtypeField (wordOfBytes b0 b1))
      (versionField (wordOfBytes b0 b1)) (flagsField (wordOfBytes b0 b1)) (applyInputs s) := by
  simp only [step, hh, hw, decode, decodeWord, exec_selectRow]

/-- A step on held inputs with fewer than two bytes in the window. -/
theorem step_of_short_window (s : State) (hh : s.hold = .held) (hw : (windowOf s).length < 2) :
    step s = .next (raiseInsufficientData (applyInputs s)) := by
  match hw' : windowOf s with
  | [] | [_] => simp only [step, hh, hw', decode]
  | _ :: _ :: _ => simp [hw'] at hw

/-- Everything a step that has a next state can do. -/
theorem step_cases (s t : State) (h : step s = .next t) :
    (s.hold = .held ∧ ∃ b0 b1 rest, windowOf s = b0 :: b1 :: rest ∧
      t = returnOk (assembleRecord s.typeRom s.tables (typeField (wordOfBytes b0 b1)) (subtypeField (wordOfBytes b0 b1))
        (versionField (wordOfBytes b0 b1)) (flagsField (wordOfBytes b0 b1)))
        (typeField (wordOfBytes b0 b1)) (subtypeField (wordOfBytes b0 b1)) (applyInputs s)) ∨
    (s.hold = .held ∧ (windowOf s).length < 2 ∧ t = raiseInsufficientData (applyInputs s)) ∨
    (s.hold = .portsMoving ∧ t = sampleMovingPorts s) := by
  cases hh : s.hold with
  | windowChanging => simp [step, hh] at h
  | portsMoving =>
    simp only [step, hh] at h
    cases h
    exact .inr (.inr ⟨rfl, rfl⟩)
  | held =>
    match hw : windowOf s with
    | [] | [_] =>
      rw [step_of_short_window s hh (by simp [hw])] at h
      cases h
      exact .inr (.inl ⟨rfl, by simp, rfl⟩)
    | b0 :: b1 :: rest =>
      rw [step_of_two_bytes s hh b0 b1 rest hw, classifyCell_next] at h
      cases h
      exact .inl ⟨rfl, b0, b1, rest, rfl, rfl⟩

/-- Placing a window keeps the canonical form of the memory. -/
theorem placeWindow_wf (bs : List Byte) (s : State) (h : memoryWf s.mem) : memoryWf (placeWindow bs s).mem :=
  writeBytes_wf s.mem s.pos bs h

/-- Two placed bytes begin the next window. -/
theorem windowOf_placeWindow_two (b0 b1 : Byte) (s : State) :
    ∃ r, windowOf (placeWindow [b0, b1] s) = b0 :: b1 :: r :=
  bytesFrom_writeBytes_two s.mem s.pos b0 b1

end Sys2Proof.Laws
end

