-- ==== Sys2Proof/Laws/PerInstr.lean ====
section
/-!
SUPPORT. Statements made for all instructions, one lemma per constructor.
RowMatch: the encoder's word of an instruction is selected by the instruction's own row of the opcode table (rule R52).
-/
namespace Sys2Proof.Laws

/-- The row of the opcode table that an instruction comes from selects its word. -/
def RowMatch.Statement (i : Instr) : Prop := rowSelects (opcodeRow i) (encode i) = true

/-- A row of types 0 to 2 selects its pattern whatever the operands, if it selects it with zero operands. -/
theorem rowSelects_pattern (m : BitVec 16) (c : BitVec 6) (pv : BitVec 2) (fl : BitVec 8) (h : rowWord 0#8 c 0#2 = m) :
    rowSelects ⟨m, 0x00FC#16⟩ (rowWord fl c pv) = true := by
  simp [rowSelects, rowWord_and_mask, h]

theorem RowMatch.mgmtAssociationRequest (pv : BitVec 2) (fl : BitVec 8) : RowMatch.Statement (.mgmtAssociationRequest pv fl) :=
  rowSelects_pattern _ _ pv fl (by decide)

theorem RowMatch.mgmtAssociationResponse (pv : BitVec 2) (fl : BitVec 8) : RowMatch.Statement (.mgmtAssociationResponse pv fl) :=
  rowSelects_pattern _ _ pv fl (by decide)

theorem RowMatch.mgmtReassociationRequest (pv : BitVec 2) (fl : BitVec 8) : RowMatch.Statement (.mgmtReassociationRequest pv fl) :=
  rowSelects_pattern _ _ pv fl (by decide)

theorem RowMatch.mgmtReassociationResponse (pv : BitVec 2) (fl : BitVec 8) : RowMatch.Statement (.mgmtReassociationResponse pv fl) :=
  rowSelects_pattern _ _ pv fl (by decide)

theorem RowMatch.mgmtProbeRequest (pv : BitVec 2) (fl : BitVec 8) : RowMatch.Statement (.mgmtProbeRequest pv fl) :=
  rowSelects_pattern _ _ pv fl (by decide)

theorem RowMatch.mgmtProbeResponse (pv : BitVec 2) (fl : BitVec 8) : RowMatch.Statement (.mgmtProbeResponse pv fl) :=
  rowSelects_pattern _ _ pv fl (by decide)

theorem RowMatch.mgmtUnHandled6 (pv : BitVec 2) (fl : BitVec 8) : RowMatch.Statement (.mgmtUnHandled6 pv fl) :=
  rowSelects_pattern _ _ pv fl (by decide)

theorem RowMatch.mgmtReserved7 (pv : BitVec 2) (fl : BitVec 8) : RowMatch.Statement (.mgmtReserved7 pv fl) :=
  rowSelects_pattern _ _ pv fl (by decide)

theorem RowMatch.mgmtBeacon (pv : BitVec 2) (fl : BitVec 8) : RowMatch.Statement (.mgmtBeacon pv fl) :=
  rowSelects_pattern _ _ pv fl (by decide)

theorem RowMatch.mgmtAtim (pv : BitVec 2) (fl : BitVec 8) : RowMatch.Statement (.mgmtAtim pv fl) :=
  rowSelects_pattern _ _ pv fl (by decide)

theorem RowMatch.mgmtDisassociation (pv : BitVec 2) (fl : BitVec 8) : RowMatch.Statement (.mgmtDisassociation pv fl) :=
  rowSelects_pattern _ _ pv fl (by decide)

theorem RowMatch.mgmtAuthentication (pv : BitVec 2) (fl : BitVec 8) : RowMatch.Statement (.mgmtAuthentication pv fl) :=
  rowSelects_pattern _ _ pv fl (by decide)

theorem RowMatch.mgmtDeauthentication (pv : BitVec 2) (fl : BitVec 8) : RowMatch.Statement (.mgmtDeauthentication pv fl) :=
  rowSelects_pattern _ _ pv fl (by decide)

theorem RowMatch.mgmtUnHandled13 (pv : BitVec 2) (fl : BitVec 8) : RowMatch.Statement (.mgmtUnHandled13 pv fl) :=
  rowSelects_pattern _ _ pv fl (by decide)

theorem RowMatch.mgmtUnHandled14 (pv : BitVec 2) (fl : BitVec 8) : RowMatch.Statement (.mgmtUnHandled14 pv fl) :=
  rowSelects_pattern _ _ pv fl (by decide)

theorem RowMatch.mgmtReserved15 (pv : BitVec 2) (fl : BitVec 8) : RowMatch.Statement (.mgmtReserved15 pv fl) :=
  rowSelects_pattern _ _ pv fl (by decide)

theorem RowMatch.ctrlReserved0 (pv : BitVec 2) (fl : BitVec 8) : RowMatch.Statement (.ctrlReserved0 pv fl) :=
  rowSelects_pattern _ _ pv fl (by decide)

theorem RowMatch.ctrlReserved1 (pv : BitVec 2) (fl : BitVec 8) : RowMatch.Statement (.ctrlReserved1 pv fl) :=
  rowSelects_pattern _ _ pv fl (by decide)

theorem RowMatch.ctrlTrigger (pv : BitVec 2) (fl : BitVec 8) : RowMatch.Statement (.ctrlTrigger pv fl) :=
  rowSelects_pattern _ _ pv fl (by decide)

theorem RowMatch.ctrlTack (pv : BitVec 2) (fl : BitVec 8) : RowMatch.Statement (.ctrlTack pv fl) :=
  rowSelects_pattern _ _ pv fl (by decide)

theorem RowMatch.ctrlBeamformingReportPoll (pv : BitVec 2) (fl : BitVec 8) : RowMatch.Statement (.ctrlBeamformingReportPoll pv fl) :=
  rowSelects_pattern _ _ pv fl (by decide)

theorem RowMatch.ctrlNdpAnnouncement (pv : BitVec 2) (fl : BitVec 8) : RowMatch.Statement (.ctrlNdpAnnouncement pv fl) :=
  rowSelects_pattern _ _ pv fl (by decide)

theorem RowMatch.ctrlControlFrameExtension (pv : BitVec 2) (fl : BitVec 8) : RowMatch.Statement (.ctrlControlFrameExtension pv fl) :=
  rowSelects_pattern _ _ pv fl (by decide)

theorem RowMatch.ctrlControlWrapper (pv : BitVec 2) (fl : BitVec 8) : RowMatch.Statement (.ctrlControlWrapper pv fl) :=
  rowSelects_pattern _ _ pv fl (by decide)

theorem RowMatch.ctrlBlockAckRequest (pv : BitVec 2) (fl : BitVec 8) : RowMatch.Statement (.ctrlBlockAckRequest pv fl) :=
  rowSelects_pattern _ _ pv fl (by decide)

theorem RowMatch.ctrlBlockAck (pv : BitVec 2) (fl : BitVec 8) : RowMatch.Statement (.ctrlBlockAck pv fl) :=
  rowSelects_pattern _ _ pv fl (by decide)

theorem RowMatch.ctrlPsPoll (pv : BitVec 2) (fl : BitVec 8) : RowMatch.Statement (.ctrlPsPoll pv fl) :=
  rowSelects_pattern _ _ pv fl (by decide)

theorem RowMatch.ctrlRts (pv : BitVec 2) (fl : BitVec 8) : RowMatch.Statement (.ctrlRts pv fl) :=
  rowSelects_pattern _ _ pv fl (by decide)

theorem RowMatch.ctrlCts (pv : BitVec 2) (fl : BitVec 8) : RowMatch.Statement (.ctrlCts pv fl) :=
  rowSelects_pattern _ _ pv fl (by decide)

theorem RowMatch.ctrlAck (pv : BitVec 2) (fl : BitVec 8) : RowMatch.Statement (.ctrlAck pv fl) :=
  rowSelects_pattern _ _ pv fl (by decide)

theorem RowMatch.ctrlCfEnd (pv : BitVec 2) (fl : BitVec 8) : RowMatch.Statement (.ctrlCfEnd pv fl) :=
  rowSelects_pattern _ _ pv fl (by decide)

theorem RowMatch.ctrlCfEndCfAck (pv : BitVec 2) (fl : BitVec 8) : RowMatch.Statement (.ctrlCfEndCfAck pv fl) :=
  rowSelects_pattern _ _ pv fl (by decide)

theorem RowMatch.dataData (pv : BitVec 2) (fl : BitVec 8) : RowMatch.Statement (.dataData pv fl) :=
  rowSelects_pattern _ _ pv fl (by decide)

theorem RowMatch.dataDataCfAck (pv : BitVec 2) (fl : BitVec 8) : RowMatch.Statement (.dataDataCfAck pv fl) :=
  rowSelects_pattern _ _ pv fl (by decide)

theorem RowMatch.dataDataCfPoll (pv : BitVec 2) (fl : BitVec 8) : RowMatch.Statement (.dataDataCfPoll pv fl) :=
  rowSelects_pattern _ _ pv fl (by decide)

theorem RowMatch.dataDataCfAckCfPoll (pv : BitVec 2) (fl : BitVec 8) : RowMatch.Statement (.dataDataCfAckCfPoll pv fl) :=
  rowSelects_pattern _ _ pv fl (by decide)

theorem RowMatch.dataNullData (pv : BitVec 2) (fl : BitVec 8) : RowMatch.Statement (.dataNullData pv fl) :=
  rowSelects_pattern _ _ pv fl (by decide)

theorem RowMatch.dataCfAck (pv : BitVec 2) (fl : BitVec 8) : RowMatch.Statement (.dataCfAck pv fl) :=
  rowSelects_pattern _ _ pv fl (by decide)

theorem RowMatch.dataCfPoll (pv : BitVec 2) (fl : BitVec 8) : RowMatch.Statement (.dataCfPoll pv fl) :=
  rowSelects_pattern _ _ pv fl (by decide)

theorem RowMatch.dataCfAckCfPoll (pv : BitVec 2) (fl : BitVec 8) : RowMatch.Statement (.dataCfAckCfPoll pv fl) :=
  rowSelects_pattern _ _ pv fl (by decide)

theorem RowMatch.dataQoS (pv : BitVec 2) (fl : BitVec 8) : RowMatch.Statement (.dataQoS pv fl) :=
  rowSelects_pattern _ _ pv fl (by decide)

theorem RowMatch.dataQoSDataCfAck (pv : BitVec 2) (fl : BitVec 8) : RowMatch.Statement (.dataQoSDataCfAck pv fl) :=
  rowSelects_pattern _ _ pv fl (by decide)

theorem RowMatch.dataQoSDataCfPoll (pv : BitVec 2) (fl : BitVec 8) : RowMatch.Statement (.dataQoSDataCfPoll pv fl) :=
  rowSelects_pattern _ _ pv fl (by decide)

theorem RowMatch.dataQoSDataCfAckCfPoll (pv : BitVec 2) (fl : BitVec 8) : RowMatch.Statement (.dataQoSDataCfAckCfPoll pv fl) :=
  rowSelects_pattern _ _ pv fl (by decide)

theorem RowMatch.dataQoSNull (pv : BitVec 2) (fl : BitVec 8) : RowMatch.Statement (.dataQoSNull pv fl) :=
  rowSelects_pattern _ _ pv fl (by decide)

theorem RowMatch.dataReserved13 (pv : BitVec 2) (fl : BitVec 8) : RowMatch.Statement (.dataReserved13 pv fl) :=
  rowSelects_pattern _ _ pv fl (by decide)

theorem RowMatch.dataQoSCfPoll (pv : BitVec 2) (fl : BitVec 8) : RowMatch.Statement (.dataQoSCfPoll pv fl) :=
  rowSelects_pattern _ _ pv fl (by decide)

theorem RowMatch.dataQoSCfAckCfPoll (pv : BitVec 2) (fl : BitVec 8) : RowMatch.Statement (.dataQoSCfAckCfPoll pv fl) :=
  rowSelects_pattern _ _ pv fl (by decide)

theorem RowMatch.unknownUnHandled (s : BitVec 4) (pv : BitVec 2) (fl : BitVec 8) : RowMatch.Statement (.unknownUnHandled s pv fl) := by
  simp only [RowMatch.Statement, rowSelects, opcodeRow, encode, rowWord_and_type_mask]
  decide

end Sys2Proof.Laws
end

