-- ==== Sys2Proof/Tests/Slice0.lean ====
section
/-!
SUPPORT. Tests. Every expected value is from spec/95_test_vectors.md or the patterns of spec/opcode_table.json, never from
the model; and for every obligation that has hypotheses, a witness that meets them together.
-/
namespace Sys2Proof.Tests

open Sys2Proof.Machine Sys2Proof.Safety Sys2Proof.Statements

/-! ### Well-formedness: what each check accepts and what it refuses -/

theorem test_instr_wellFormed_widest : (Instr.unknownUnHandled 15#4 3#2 0xFF#8).wellFormed = true := by decide
theorem test_record_wellFormed :
    (FrameControl.mk 3#2 .control .rts 0x5A#8).wellFormed = true ∧ (FrameControl.mk 0#2 .data .reserved 0#8).wellFormed = true ∧
    (FrameControl.mk 0#2 .unknown .unHandled 0#8).wellFormed = true := by decide
theorem test_record_of_another_family_refused : (FrameControl.mk 0#2 .management .rts 0#8).wellFormed = false := by decide
theorem test_record_unknown_reserved_refused : (FrameControl.mk 0#2 .unknown .reserved 0#8).wellFormed = false := by decide
/-- The ports of vector Q5. -/
def portsOfRts : OutPorts := ⟨true, false, 2#2, 0#2, 1#2, 20#6, 0x01#8, 1#2, 11#4⟩
theorem test_ports_wellFormed : portsOfRts.wellFormed = true ∧ failurePorts.wellFormed = true := by decide
theorem test_ports_err_equal_to_ok_refused :
    ({ portsOfRts with errInsuf := true } : OutPorts).errIsComplement = false ∧
    ({ portsOfRts with errInsuf := true } : OutPorts).wellFormed = false := by decide
theorem test_ports_consumed_one_refused :
    ({ portsOfRts with consumed := 1#2 } : OutPorts).consumedFollowsOk = false ∧
    ({ portsOfRts with consumed := 1#2 } : OutPorts).wellFormed = false := by decide
theorem test_ports_field_on_failure_refused :
    ({ failurePorts with rawSub := 8#4 } : OutPorts).quietOnFailure = false ∧
    ({ failurePorts with rawSub := 8#4 } : OutPorts).wellFormed = false := by decide
theorem test_ports_undriven_code_refused :
    ({ portsOfRts with fsub := 42#6 } : OutPorts).subtypeCodeDriven = false ∧
    ({ portsOfRts with fsub := 42#6 } : OutPorts).wellFormed = false := by decide

/-! ### Every row: its word, written out from the row's pattern with the operands of vector section 2.4, decodes to it, and
one step on that window gives the vector's result, `ftype`, `fsub` and `raw_sub` -/

/-- The state after power-up, with a window of these bytes at the caller's position. -/
def windowState (bytes : List Byte) : State := placeWindow bytes State.reset

/-- What a vector of section 2.4 states of one invocation. -/
def outcome (bytes : List Byte) : Option (DecodeResult × BitVec 2 × BitVec 6 × BitVec 4) :=
  match step (windowState bytes) with
  | .next u => u.result.map fun r => (r, u.outPorts.ftype, u.outPorts.fsub, u.outPorts.rawSub)
  | _ => none

theorem test_mgmtAssociationRequest :
    decode [0b00000000#8, 0x00#8] = .ok (.mgmtAssociationRequest 0#2 0x00#8, []) ∧
    outcome [0b00000000#8, 0x00#8] = some (.ok [] ⟨0#2, .management, .associationRequest, 0x00#8⟩, 0#2, 0#6, 0#4) := by decide
theorem test_mgmtAssociationResponse :
    decode [0b00010001#8, 0x11#8] = .ok (.mgmtAssociationResponse 1#2 0x11#8, []) ∧
    outcome [0b00010001#8, 0x11#8] = some (.ok [] ⟨1#2, .management, .associationResponse, 0x11#8⟩, 0#2, 1#6, 1#4) := by decide
theorem test_mgmtReassociationRequest :
    decode [0b00100010#8, 0x22#8] = .ok (.mgmtReassociationRequest 2#2 0x22#8, []) ∧
    outcome [0b00100010#8, 0x22#8] = some (.ok [] ⟨2#2, .management, .reassociationRequest, 0x22#8⟩, 0#2, 2#6, 2#4) := by decide
theorem test_mgmtReassociationResponse :
    decode [0b00110011#8, 0x33#8] = .ok (.mgmtReassociationResponse 3#2 0x33#8, []) ∧
    outcome [0b00110011#8, 0x33#8] = some (.ok [] ⟨3#2, .management, .reassociationResponse, 0x33#8⟩, 0#2, 3#6, 3#4) := by decide
theorem test_mgmtProbeRequest :
    decode [0b01000000#8, 0x44#8] = .ok (.mgmtProbeRequest 0#2 0x44#8, []) ∧
    outcome [0b01000000#8, 0x44#8] = some (.ok [] ⟨0#2, .management, .probeRequest, 0x44#8⟩, 0#2, 4#6, 4#4) := by decide
theorem test_mgmtProbeResponse :
    decode [0b01010001#8, 0x55#8] = .ok (.mgmtProbeResponse 1#2 0x55#8, []) ∧
    outcome [0b01010001#8, 0x55#8] = some (.ok [] ⟨1#2, .management, .probeResponse, 0x55#8⟩, 0#2, 5#6, 5#4) := by decide
theorem test_mgmtUnHandled6 :
    decode [0b01100010#8, 0x66#8] = .ok (.mgmtUnHandled6 2#2 0x66#8, []) ∧
    outcome [0b01100010#8, 0x66#8] = some (.ok [] ⟨2#2, .management, .unHandled, 0x66#8⟩, 0#2, 41#6, 6#4) := by decide
theorem test_mgmtReserved7 :
    decode [0b01110011#8, 0x77#8] = .ok (.mgmtReserved7 3#2 0x77#8, []) ∧
    outcome [0b01110011#8, 0x77#8] = some (.ok [] ⟨3#2, .management, .reserved, 0x77#8⟩, 0#2, 40#6, 7#4) := by decide
theorem test_mgmtBeacon :
    decode [0b10000000#8, 0x88#8] = .ok (.mgmtBeacon 0#2 0x88#8, []) ∧
    outcome [0b10000000#8, 0x88#8] = some (.ok [] ⟨0#2, .management, .beacon, 0x88#8⟩, 0#2, 6#6, 8#4) := by decide
theorem test_mgmtAtim :
    decode [0b10010001#8, 0x99#8] = .ok (.mgmtAtim 1#2 0x99#8, []) ∧
    outcome [0b10010001#8, 0x99#8] = some (.ok [] ⟨1#2, .management, .atim, 0x99#8⟩, 0#2, 7#6, 9#4) := by decide
theorem test_mgmtDisassociation :
    decode [0b10100010#8, 0xAA#8] = .ok (.mgmtDisassociation 2#2 0xAA#8, []) ∧
    outcome [0b10100010#8, 0xAA#8] = some (.ok [] ⟨2#2, .management, .disassociation, 0xAA#8⟩, 0#2, 8#6, 10#4) := by decide
theorem test_mgmtAuthentication :
    decode [0b10110011#8, 0xBB#8] = .ok (.mgmtAuthentication 3#2 0xBB#8, []) ∧
    outcome [0b10110011#8, 0xBB#8] = some (.ok [] ⟨3#2, .management, .authentication, 0xBB#8⟩, 0#2, 9#6, 11#4) := by decide
theorem test_mgmtDeauthentication :
    decode [0b11000000#8, 0xCC#8] = .ok (.mgmtDeauthentication 0#2 0xCC#8, []) ∧
    outcome [0b11000000#8, 0xCC#8] = some (.ok [] ⟨0#2, .management, .deauthentication, 0xCC#8⟩, 0#2, 10#6, 12#4) := by decide
theorem test_mgmtUnHandled13 :
    decode [0b11010001#8, 0xDD#8] = .ok (.mgmtUnHandled13 1#2 0xDD#8, []) ∧
    outcome [0b11010001#8, 0xDD#8] = some (.ok [] ⟨1#2, .management, .unHandled, 0xDD#8⟩, 0#2, 41#6, 13#4) := by decide
theorem test_mgmtUnHandled14 :
    decode [0b11100010#8, 0xEE#8] = .ok (.mgmtUnHandled14 2#2 0xEE#8, []) ∧
    outcome [0b11100010#8, 0xEE#8] = some (.ok [] ⟨2#2, .management, .unHandled, 0xEE#8⟩, 0#2, 41#6, 14#4) := by decide
theorem test_mgmtReserved15 :
    decode [0b11110011#8, 0xFF#8] = .ok (.mgmtReserved15 3#2 0xFF#8, []) ∧
    outcome [0b11110011#8, 0xFF#8] = some (.ok [] ⟨3#2, .management, .reserved, 0xFF#8⟩, 0#2, 40#6, 15#4) := by decide
theorem test_ctrlReserved0 :
    decode [0b00000101#8, 0x5A#8] = .ok (.ctrlReserved0 1#2 0x5A#8, []) ∧
    outcome [0b00000101#8, 0x5A#8] = some (.ok [] ⟨1#2, .control, .reserved, 0x5A#8⟩, 1#2, 40#6, 0#4) := by decide
theorem test_ctrlReserved1 :
    decode [0b00010110#8, 0x4B#8] = .ok (.ctrlReserved1 2#2 0x4B#8, []) ∧
    outcome [0b00010110#8, 0x4B#8] = some (.ok [] ⟨2#2, .control, .reserved, 0x4B#8⟩, 1#2, 40#6, 1#4) := by decide
theorem test_ctrlTrigger :
    decode [0b00100111#8, 0x78#8] = .ok (.ctrlTrigger 3#2 0x78#8, []) ∧
    outcome [0b00100111#8, 0x78#8] = some (.ok [] ⟨3#2, .control, .trigger, 0x78#8⟩, 1#2, 11#6, 2#4) := by decide
theorem test_ctrlTack :
    decode [0b00110100#8, 0x69#8] = .ok (.ctrlTack 0#2 0x69#8, []) ∧
    outcome [0b00110100#8, 0x69#8] = some (.ok [] ⟨0#2, .control, .tack, 0x69#8⟩, 1#2, 12#6, 3#4) := by decide
theorem test_ctrlBeamformingReportPoll :
    decode [0b01000101#8, 0x1E#8] = .ok (.ctrlBeamformingReportPoll 1#2 0x1E#8, []) ∧
    outcome [0b01000101#8, 0x1E#8] = some (.ok [] ⟨1#2, .control, .beamformingReportPoll, 0x1E#8⟩, 1#2, 13#6, 4#4) := by decide
theorem test_ctrlNdpAnnouncement :
    decode [0b01010110#8, 0x0F#8] = .ok (.ctrlNdpAnnouncement 2#2 0x0F#8, []) ∧
    outcome [0b01010110#8, 0x0F#8] = some (.ok [] ⟨2#2, .control, .ndpAnnouncement, 0x0F#8⟩, 1#2, 14#6, 5#4) := by decide
theorem test_ctrlControlFrameExtension :
    decode [0b01100111#8, 0x3C#8] = .ok (.ctrlControlFrameExtension 3#2 0x3C#8, []) ∧
    outcome [0b01100111#8, 0x3C#8] = some (.ok [] ⟨3#2, .control, .controlFrameExtension, 0x3C#8⟩, 1#2, 15#6, 6#4) := by decide
theorem test_ctrlControlWrapper :
    decode [0b01110100#8, 0x2D#8] = .ok (.ctrlControlWrapper 0#2 0x2D#8, []) ∧
    outcome [0b01110100#8, 0x2D#8] = some (.ok [] ⟨0#2, .control, .controlWrapper, 0x2D#8⟩, 1#2, 16#6, 7#4) := by decide
theorem test_ctrlBlockAckRequest :
    decode [0b10000101#8, 0xD2#8] = .ok (.ctrlBlockAckRequest 1#2 0xD2#8, []) ∧
    outcome [0b10000101#8, 0xD2#8] = some (.ok [] ⟨1#2, .control, .blockAckRequest, 0xD2#8⟩, 1#2, 17#6, 8#4) := by decide
theorem test_ctrlBlockAck :
    decode [0b10010110#8, 0xC3#8] = .ok (.ctrlBlockAck 2#2 0xC3#8, []) ∧
    outcome [0b10010110#8, 0xC3#8] = some (.ok [] ⟨2#2, .control, .blockAck, 0xC3#8⟩, 1#2, 18#6, 9#4) := by decide
theorem test_ctrlPsPoll :
    decode [0b10100111#8, 0xF0#8] = .ok (.ctrlPsPoll 3#2 0xF0#8, []) ∧
    outcome [0b10100111#8, 0xF0#8] = some (.ok [] ⟨3#2, .control, .psPoll, 0xF0#8⟩, 1#2, 19#6, 10#4) := by decide
theorem test_ctrlRts :
    decode [0b10110100#8, 0xE1#8] = .ok (.ctrlRts 0#2 0xE1#8, []) ∧
    outcome [0b10110100#8, 0xE1#8] = some (.ok [] ⟨0#2, .control, .rts, 0xE1#8⟩, 1#2, 20#6, 11#4) := by decide
theorem test_ctrlCts :
    decode [0b11000101#8, 0x96#8] = .ok (.ctrlCts 1#2 0x96#8, []) ∧
    outcome [0b11000101#8, 0x96#8] = some (.ok [] ⟨1#2, .control, .cts, 0x96#8⟩, 1#2, 21#6, 12#4) := by decide
theorem test_ctrlAck :
    decode [0b11010110#8, 0x87#8] = .ok (.ctrlAck 2#2 0x87#8, []) ∧
    outcome [0b11010110#8, 0x87#8] = some (.ok [] ⟨2#2, .control, .ack, 0x87#8⟩, 1#2, 22#6, 13#4) := by decide
theorem test_ctrlCfEnd :
    decode [0b11100111#8, 0xB4#8] = .ok (.ctrlCfEnd 3#2 0xB4#8, []) ∧
    outcome [0b11100111#8, 0xB4#8] = some (.ok [] ⟨3#2, .control, .cfEnd, 0xB4#8⟩, 1#2, 23#6, 14#4) := by decide
theorem test_ctrlCfEndCfAck :
    decode [0b11110100#8, 0xA5#8] = .ok (.ctrlCfEndCfAck 0#2 0xA5#8, []) ∧
    outcome [0b11110100#8, 0xA5#8] = some (.ok [] ⟨0#2, .control, .cfEndCfAck, 0xA5#8⟩, 1#2, 24#6, 15#4) := by decide
theorem test_dataData :
    decode [0b00001010#8, 0xB4#8] = .ok (.dataData 2#2 0xB4#8, []) ∧
    outcome [0b00001010#8, 0xB4#8] = some (.ok [] ⟨2#2, .data, .data, 0xB4#8⟩, 2#2, 25#6, 0#4) := by decide
theorem test_dataDataCfAck :
    decode [0b00011011#8, 0xA5#8] = .ok (.dataDataCfAck 3#2 0xA5#8, []) ∧
    outcome [0b00011011#8, 0xA5#8] = some (.ok [] ⟨3#2, .data, .dataCfAck, 0xA5#8⟩, 2#2, 26#6, 1#4) := by decide
theorem test_dataDataCfPoll :
    decode [0b00101000#8, 0x96#8] = .ok (.dataDataCfPoll 0#2 0x96#8, []) ∧
    outcome [0b00101000#8, 0x96#8] = some (.ok [] ⟨0#2, .data, .dataCfPoll, 0x96#8⟩, 2#2, 27#6, 2#4) := by decide
theorem test_dataDataCfAckCfPoll :
    decode [0b00111001#8, 0x87#8] = .ok (.dataDataCfAckCfPoll 1#2 0x87#8, []) ∧
    outcome [0b00111001#8, 0x87#8] = some (.ok [] ⟨1#2, .data, .dataCfAckCfPoll, 0x87#8⟩, 2#2, 28#6, 3#4) := by decide
theorem test_dataNullData :
    decode [0b01001010#8, 0xF0#8] = .ok (.dataNullData 2#2 0xF0#8, []) ∧
    outcome [0b01001010#8, 0xF0#8] = some (.ok [] ⟨2#2, .data, .nullData, 0xF0#8⟩, 2#2, 29#6, 4#4) := by decide
theorem test_dataCfAck :
    decode [0b01011011#8, 0xE1#8] = .ok (.dataCfAck 3#2 0xE1#8, []) ∧
    outcome [0b01011011#8, 0xE1#8] = some (.ok [] ⟨3#2, .data, .cfAck, 0xE1#8⟩, 2#2, 30#6, 5#4) := by decide
theorem test_dataCfPoll :
    decode [0b01101000#8, 0xD2#8] = .ok (.dataCfPoll 0#2 0xD2#8, []) ∧
    outcome [0b01101000#8, 0xD2#8] = some (.ok [] ⟨0#2, .data, .cfPoll, 0xD2#8⟩, 2#2, 31#6, 6#4) := by decide
theorem test_dataCfAckCfPoll :
    decode [0b01111001#8, 0xC3#8] = .ok (.dataCfAckCfPoll 1#2 0xC3#8, []) ∧
    outcome [0b01111001#8, 0xC3#8] = some (.ok [] ⟨1#2, .data, .cfAckCfPoll, 0xC3#8⟩, 2#2, 32#6, 7#4) := by decide
theorem test_dataQoS :
    decode [0b10001010#8, 0x3C#8] = .ok (.dataQoS 2#2 0x3C#8, []) ∧
    outcome [0b10001010#8, 0x3C#8] = some (.ok [] ⟨2#2, .data, .qos, 0x3C#8⟩, 2#2, 33#6, 8#4) := by decide
theorem test_dataQoSDataCfAck :
    decode [0b10011011#8, 0x2D#8] = .ok (.dataQoSDataCfAck 3#2 0x2D#8, []) ∧
    outcome [0b10011011#8, 0x2D#8] = some (.ok [] ⟨3#2, .data, .qosDataCfAck, 0x2D#8⟩, 2#2, 34#6, 9#4) := by decide
theorem test_dataQoSDataCfPoll :
    decode [0b10101000#8, 0x1E#8] = .ok (.dataQoSDataCfPoll 0#2 0x1E#8, []) ∧
    outcome [0b10101000#8, 0x1E#8] = some (.ok [] ⟨0#2, .data, .qosDataCfPoll, 0x1E#8⟩, 2#2, 35#6, 10#4) := by decide
theorem test_dataQoSDataCfAckCfPoll :
    decode [0b10111001#8, 0x0F#8] = .ok (.dataQoSDataCfAckCfPoll 1#2 0x0F#8, []) ∧
    outcome [0b10111001#8, 0x0F#8] = some (.ok [] ⟨1#2, .data, .qosDataCfAckCfPoll, 0x0F#8⟩, 2#2, 36#6, 11#4) := by decide
theorem test_dataQoSNull :
    decode [0b11001010#8, 0x78#8] = .ok (.dataQoSNull 2#2 0x78#8, []) ∧
    outcome [0b11001010#8, 0x78#8] = some (.ok [] ⟨2#2, .data, .qosNull, 0x78#8⟩, 2#2, 37#6, 12#4) := by decide
theorem test_dataReserved13 :
    decode [0b11011011#8, 0x69#8] = .ok (.dataReserved13 3#2 0x69#8, []) ∧
    outcome [0b11011011#8, 0x69#8] = some (.ok [] ⟨3#2, .data, .reserved, 0x69#8⟩, 2#2, 40#6, 13#4) := by decide
theorem test_dataQoSCfPoll :
    decode [0b11101000#8, 0x5A#8] = .ok (.dataQoSCfPoll 0#2 0x5A#8, []) ∧
    outcome [0b11101000#8, 0x5A#8] = some (.ok [] ⟨0#2, .data, .qosCfPoll, 0x5A#8⟩, 2#2, 38#6, 14#4) := by decide
theorem test_dataQoSCfAckCfPoll :
    decode [0b11111001#8, 0x4B#8] = .ok (.dataQoSCfAckCfPoll 1#2 0x4B#8, []) ∧
    outcome [0b11111001#8, 0x4B#8] = some (.ok [] ⟨1#2, .data, .qosCfAckCfPoll, 0x4B#8⟩, 2#2, 39#6, 15#4) := by decide
theorem test_unknownUnHandled :
    decode [0b00001111#8, 0x0F#8] = .ok (.unknownUnHandled 0#4 3#2 0x0F#8, []) ∧
    decode [0b01111110#8, 0x78#8] = .ok (.unknownUnHandled 7#4 2#2 0x78#8, []) ∧
    decode [0b10001111#8, 0x87#8] = .ok (.unknownUnHandled 8#4 3#2 0x87#8, []) ∧
    decode [0b11111110#8, 0xF0#8] = .ok (.unknownUnHandled 15#4 2#2 0xF0#8, []) := by decide
theorem test_unknownUnHandled_step :
    outcome [0b00001111#8, 0x0F#8] = some (.ok [] ⟨3#2, .unknown, .unHandled, 0x0F#8⟩, 3#2, 41#6, 0#4) ∧
    outcome [0b01111110#8, 0x78#8] = some (.ok [] ⟨2#2, .unknown, .unHandled, 0x78#8⟩, 3#2, 41#6, 7#4) ∧
    outcome [0b10001111#8, 0x87#8] = some (.ok [] ⟨3#2, .unknown, .unHandled, 0x87#8⟩, 3#2, 41#6, 8#4) ∧
    outcome [0b11111110#8, 0xF0#8] = some (.ok [] ⟨2#2, .unknown, .unHandled, 0xF0#8⟩, 3#2, 41#6, 15#4) := by decide

/-! ### Length, trailing bytes, ports and host interface (vectors L, X, Q, section 3) -/

/-- The result and every output port of one invocation, with the caller's position and records after it. -/
def outcomeFull (bytes : List Byte) : Option (DecodeResult × OutPorts × Nat × List FrameControl) :=
  match step (windowState bytes) with
  | .next u => u.result.map fun r => (r, u.outPorts, u.pos, u.records)
  | _ => none

theorem test_short_windows :
    ∀ w ∈ ([[], [0x00#8], [0xFF#8], [0x80#8]] : List (List Byte)),
      outcomeFull w = some (.err .insufficientData, ⟨false, true, 0#2, 0#2, 0#2, 0#6, 0#8, 0#2, 0#4⟩, 0, []) := by decide
theorem test_two_bytes_leave_empty_remainder :
    outcomeFull [0x80#8, 0x00#8] =
      some (.ok [] ⟨0#2, .management, .beacon, 0#8⟩, ⟨true, false, 2#2, 0#2, 0#2, 6#6, 0#8, 0#2, 8#4⟩, 2,
        [⟨0#2, .management, .beacon, 0#8⟩]) := by decide
theorem test_trailing_bytes_come_back :
    outcome [0xB4#8, 0x01#8, 0x02#8, 0x00#8, 0xAA#8] =
      some (.ok [0x02#8, 0x00#8, 0xAA#8] ⟨0#2, .control, .rts, 0x01#8⟩, 1#2, 20#6, 11#4) := by decide
theorem test_all_ones :
    outcomeFull [0xFF#8, 0xFF#8] =
      some (.ok [] ⟨3#2, .unknown, .unHandled, 0xFF#8⟩, ⟨true, false, 2#2, 3#2, 3#2, 41#6, 0xFF#8, 3#2, 15#4⟩, 2,
        [⟨3#2, .unknown, .unHandled, 0xFF#8⟩]) := by decide
theorem test_version_three_keeps_classification :
    outcome [0xB7#8, 0x5A#8] = some (.ok [] ⟨3#2, .control, .rts, 0x5A#8⟩, 1#2, 20#6, 11#4) := by decide
/-- Vectors Q1 to Q6. -/
theorem test_ports_of_unavailable_bytes :
    portEquations typeRomContents subtypeTablesDefault ⟨0x00#8, 0x00#8, 0#2⟩ = failurePorts ∧
    portEquations typeRomContents subtypeTablesDefault ⟨0xB4#8, 0x01#8, 0#2⟩ = failurePorts ∧
    portEquations typeRomContents subtypeTablesDefault ⟨0xB4#8, 0x01#8, 1#2⟩ = failurePorts ∧
    portEquations typeRomContents subtypeTablesDefault ⟨0xFF#8, 0xFF#8, 1#2⟩ = failurePorts ∧
    portEquations typeRomContents subtypeTablesDefault ⟨0xB4#8, 0x01#8, 2#2⟩ = portsOfRts ∧
    portEquations typeRomContents subtypeTablesDefault ⟨0xB4#8, 0x01#8, 3#2⟩ = portsOfRts := by decide
/-- Result, position and records after one step from a state. -/
def resultAfter (s : State) : Option (Option DecodeResult × Nat × List FrameControl) :=
  match step s with
  | .next u => some (u.result, u.pos, u.records)
  | _ => none

/-- The end of the buffer of program P2. -/
def p2Buffer : Memory := [(8, 0x48#8), (9, 0x11#8), (10, 0x07#8)]

/-- Step 6 of program P2: the lone byte 0x07 at address 10. -/
theorem test_lone_trailing_byte_keeps_position :
    resultAfter { State.reset with mem := p2Buffer, pos := 10 } = some (some (.err .insufficientData), 10, []) := by decide
/-- Step 5 of program P2. -/
theorem test_step_inside_a_buffer :
    resultAfter { State.reset with mem := p2Buffer, pos := 8 } =
      some (some (.ok [0x07#8] ⟨0#2, .data, .nullData, 0x11#8⟩), 10, [⟨0#2, .data, .nullData, 0x11#8⟩]) := by decide
theorem test_inputs_of_step_inside_a_buffer :
    (applyInputs { State.reset with mem := p2Buffer, pos := 8 }).inPorts = ⟨0x48#8, 0x11#8, 3#2⟩ := by decide
theorem test_table_word_is_little_endian : decodeTableWord 16 0x01B4 = some (.ctrlRts 0#2 0x01#8) := by decide
theorem test_placed_word_runs :
    resultAfter (State.reset.withFetchWord 16 0x01B4) =
      some (some (.ok [] ⟨0#2, .control, .rts, 0x01#8⟩), 2, [⟨0#2, .control, .rts, 0x01#8⟩]) := by decide
theorem test_ports_read_back :
    recordOfPorts portsOfRts = .ok ⟨0#2, .control, .rts, 0x01#8⟩ ∧ recordOfPorts failurePorts = .error .noRecord ∧
    recordOfPorts { portsOfRts with fsub := 42#6 } = .error .undrivenSubtypeCode := by decide

/-! ### Witnesses: for each obligation with hypotheses, inputs that meet them together, clause by clause -/

/-- A state that shares neither position, memory elsewhere, ports, result, records nor counter with `windowState`. -/
def usedState (bytes : List Byte) : State :=
  placeWindow bytes
    { State.reset with
      mem := [(0, 0xEE#8)], pos := 7, draws := 4, records := [⟨1#2, .data, .qos, 2#8⟩], outPorts := portsOfRts,
      result := some (.err .insufficientData) }

theorem witness_DecodeOfEncodeIsIdentity : (Instr.unknownUnHandled 15#4 3#2 0xFF#8).wellFormed = true := by decide
theorem witness_EncodeOfDecodeIsIdentity :
    decode [0xFF#8, 0xFF#8, 0x01#8] = .ok (.unknownUnHandled 15#4 3#2 0xFF#8, [0x01#8]) := by decide
theorem witness_EveryWordSelectsExactlyOneRow :
    (2#2 : BitVec 2) ≠ 3#2 ∧ (⟨0x000C#16, 0x000C#16⟩ : OpcodeRow) ∈ opcodeRows ∧
    rowSelects ⟨0x000C#16, 0x000C#16⟩ 0xFFFF#16 = true := by decide
theorem witness_ExtractionReadsTheFieldBits :
    (versionField (wordOfBytes 0x02#8 0x00#8)).getLsbD 1 = true ∧ (typeField (wordOfBytes 0x08#8 0x00#8)).getLsbD 1 = true ∧
    (subtypeField (wordOfBytes 0x80#8 0x00#8)).getLsbD 3 = true := by decide
theorem witness_RoundTripHoldsAtThePortsOnly :
    (windowState [0x14#8, 0x00#8]).hold = .held ∧ windowOf (windowState [0x14#8, 0x00#8]) = [0x14#8, 0x00#8] := by decide
theorem witness_StepRunsTheDecodedInstruction :
    (windowState [0xFF#8, 0xFF#8]).hold = .held ∧
    decode (windowOf (windowState [0xFF#8, 0xFF#8])) = .ok (.unknownUnHandled 15#4 3#2 0xFF#8, []) ∧
    decode (windowOf (windowState [0xFF#8, 0xFF#8, 0xAA#8])) = .ok (.unknownUnHandled 15#4 3#2 0xFF#8, [0xAA#8]) := by decide
theorem witness_PlacedInstructionIsRun :
    (usedState []).pos = 7 ∧ 0 ≠ (usedState []).pos ∧ 0 ≠ (usedState []).pos + 1 ∧ readByte (usedState []).mem 0 = some 0xEE#8 :=
  by decide
theorem witness_FrameOfEveryInstruction :
    ∃ t, exec (.mgmtBeacon 0#2 0#8) (windowState [0x80#8, 0x00#8]) = .next t := ⟨_, rfl⟩
theorem witness_ManagementCellsZeroToSeven :
    typeRomAt State.reset.typeRom 0#2 = .management ∧
    ∀ r ∈ [(0x0000#16, 0#4, FrameSubType.associationRequest),
      (0x0010#16, 1#4, FrameSubType.associationResponse),
      (0x0020#16, 2#4, FrameSubType.reassociationRequest),
      (0x0030#16, 3#4, FrameSubType.reassociationResponse),
      (0x0040#16, 4#4, FrameSubType.probeRequest),
      (0x0050#16, 5#4, FrameSubType.probeResponse),
      (0x0060#16, 6#4, FrameSubType.unHandled),
      (0x0070#16, 7#4, FrameSubType.reserved)],
      (r.1 ||| 0xFF03#16) &&& 0x00FC#16 = r.1 ∧ subtypeRomAt State.reset.tables.mgmt r.2.1 = r.2.2 := by decide
theorem witness_ManagementCellsEightToFifteen :
    typeRomAt State.reset.typeRom 0#2 = .management ∧
    ∀ r ∈ [(0x0080#16, 8#4, FrameSubType.beacon),
      (0x0090#16, 9#4, FrameSubType.atim),
      (0x00A0#16, 10#4, FrameSubType.disassociation),
      (0x00B0#16, 11#4, FrameSubType.authentication),
      (0x00C0#16, 12#4, FrameSubType.deauthentication),
      (0x00D0#16, 13#4, FrameSubType.unHandled),
      (0x00E0#16, 14#4, FrameSubType.unHandled),
      (0x00F0#16, 15#4, FrameSubType.reserved)],
      (r.1 ||| 0xFF03#16) &&& 0x00FC#16 = r.1 ∧ subtypeRomAt State.reset.tables.mgmt r.2.1 = r.2.2 := by decide
theorem witness_ControlCellsZeroToSeven :
    typeRomAt State.reset.typeRom 1#2 = .control ∧
    ∀ r ∈ [(0x0004#16, 0#4, FrameSubType.reserved),
      (0x0014#16, 1#4, FrameSubType.reserved),
      (0x0024#16, 2#4, FrameSubType.trigger),
      (0x0034#16, 3#4, FrameSubType.tack),
      (0x0044#16, 4#4, FrameSubType.beamformingReportPoll),
      (0x0054#16, 5#4, FrameSubType.ndpAnnouncement),
      (0x0064#16, 6#4, FrameSubType.controlFrameExtension),
      (0x0074#16, 7#4, FrameSubType.controlWrapper)],
      (r.1 ||| 0xFF03#16) &&& 0x00FC#16 = r.1 ∧ subtypeRomAt State.reset.tables.ctrl r.2.1 = r.2.2 := by decide
theorem witness_ControlCellsEightToFifteen :
    typeRomAt State.reset.typeRom 1#2 = .control ∧
    ∀ r ∈ [(0x0084#16, 8#4, FrameSubType.blockAckRequest),
      (0x0094#16, 9#4, FrameSubType.blockAck),
      (0x00A4#16, 10#4, FrameSubType.psPoll),
      (0x00B4#16, 11#4, FrameSubType.rts),
      (0x00C4#16, 12#4, FrameSubType.cts),
      (0x00D4#16, 13#4, FrameSubType.ack),
      (0x00E4#16, 14#4, FrameSubType.cfEnd),
      (0x00F4#16, 15#4, FrameSubType.cfEndCfAck)],
      (r.1 ||| 0xFF03#16) &&& 0x00FC#16 = r.1 ∧ subtypeRomAt State.reset.tables.ctrl r.2.1 = r.2.2 := by decide
theorem witness_DataCellsZeroToSeven :
    typeRomAt State.reset.typeRom 2#2 = .data ∧
    ∀ r ∈ [(0x0008#16, 0#4, FrameSubType.data),
      (0x0018#16, 1#4, FrameSubType.dataCfAck),
      (0x0028#16, 2#4, FrameSubType.dataCfPoll),
      (0x0038#16, 3#4, FrameSubType.dataCfAckCfPoll),
      (0x0048#16, 4#4, FrameSubType.nullData),
      (0x0058#16, 5#4, FrameSubType.cfAck),
      (0x0068#16, 6#4, FrameSubType.cfPoll),
      (0x0078#16, 7#4, FrameSubType.cfAckCfPoll)],
      (r.1 ||| 0xFF03#16) &&& 0x00FC#16 = r.1 ∧ subtypeRomAt State.reset.tables.data r.2.1 = r.2.2 := by decide
theorem witness_DataCellsEightToFifteen :
    typeRomAt State.reset.typeRom 2#2 = .data ∧
    ∀ r ∈ [(0x0088#16, 8#4, FrameSubType.qos),
      (0x0098#16, 9#4, FrameSubType.qosDataCfAck),
      (0x00A8#16, 10#4, FrameSubType.qosDataCfPoll),
      (0x00B8#16, 11#4, FrameSubType.qosDataCfAckCfPoll),
      (0x00C8#16, 12#4, FrameSubType.qosNull),
      (0x00D8#16, 13#4, FrameSubType.reserved),
      (0x00E8#16, 14#4, FrameSubType.qosCfPoll),
      (0x00F8#16, 15#4, FrameSubType.qosCfAckCfPoll)],
      (r.1 ||| 0xFF03#16) &&& 0x00FC#16 = r.1 ∧ subtypeRomAt State.reset.tables.data r.2.1 = r.2.2 := by decide
theorem witness_SourceFixedCellsClassify :
    SourceTypeRom State.reset.typeRom ∧ SourceFixedCells State.reset.tables ∧
    [0xFF83#16, 0xFF07#16, 0xFF17#16, 0xFFB7#16, 0xFF8B#16, 0xFFDB#16].map (· &&& 0x00FC#16) =
      [0x0080#16, 0x0004#16, 0x0014#16, 0x00B4#16, 0x0088#16, 0x00D8#16] :=
  ⟨⟨rfl, rfl, rfl, rfl⟩, ⟨rfl, rfl, rfl, rfl, rfl, rfl⟩, by decide⟩
theorem witness_UnknownTypeRowClassifies :
    0xFFFF#16 &&& 0x000C#16 = 0x000C#16 ∧ 0x000C#16 &&& 0x000C#16 = 0x000C#16 ∧
    typeRomAt State.reset.typeRom 3#2 = .unknown := by decide
theorem witness_TypeCodesClassify :
    (windowState [0xF3#8, 0xFF#8]).hold = .held ∧
    typeRomAt (windowState [0xF3#8, 0xFF#8]).typeRom 0#2 = .management ∧
    typeRomAt (windowState [0x04#8, 0x00#8]).typeRom 1#2 = .control ∧
    typeRomAt (windowState [0xF8#8, 0x00#8]).typeRom 2#2 = .data ∧
    typeRomAt (windowState [0xFF#8, 0xFF#8]).typeRom 3#2 = .unknown ∧
    windowOf (windowState [0xF3#8, 0xFF#8]) = [0xF3#8, 0xFF#8] ∧ wordOfBytes 0xF3#8 0xFF#8 &&& 0x000C#16 = 0x0000#16 ∧
    windowOf (windowState [0x04#8, 0x00#8]) = [0x04#8, 0x00#8] ∧ wordOfBytes 0x04#8 0x00#8 &&& 0x000C#16 = 0x0004#16 ∧
    windowOf (windowState [0xF8#8, 0x00#8]) = [0xF8#8, 0x00#8] ∧ wordOfBytes 0xF8#8 0x00#8 &&& 0x000C#16 = 0x0008#16 ∧
    windowOf (windowState [0xFF#8, 0xFF#8]) = [0xFF#8, 0xFF#8] ∧ wordOfBytes 0xFF#8 0xFF#8 &&& 0x000C#16 = 0x000C#16 := by
  decide
theorem witness_ReservedAndUnHandledCells :
    (windowState [0xD8#8, 0x00#8]).hold = .held ∧ SpecTables (windowState [0xD8#8, 0x00#8]) ∧
    windowOf (windowState [0xD8#8, 0x00#8]) = [0xD8#8, 0x00#8] ∧ windowOf (windowState [0x60#8, 0x00#8]) = [0x60#8, 0x00#8] := by
  unfold SpecTables; decide
theorem witness_SourceExamplesDecode :
    (windowState [0x80#8, 0x00#8]).hold = .held ∧ SourceTypeRom (windowState [0x80#8, 0x00#8]).typeRom ∧
    SourceFixedCells (windowState [0x80#8, 0x00#8]).tables ∧
    windowOf (windowState [0x80#8, 0x00#8]) = [0x80#8, 0x00#8] ∧ windowOf (windowState [0xB4#8, 0x01#8]) = [0xB4#8, 0x01#8] ∧
    windowOf (windowState [0x88#8, 0xFF#8]) = [0x88#8, 0xFF#8] ∧ windowOf (windowState [0x00#8]) = [0x00#8] := by
  unfold SourceTypeRom SourceFixedCells; decide
theorem witness_MachineRunsDecodePseudocode : InputsHeld (windowState []) ∧ InputsHeld (windowState [0x80#8, 0x00#8]) := by
  unfold InputsHeld; decide
theorem witness_ShortWindowGivesInsufficientData :
    (windowState []).hold = .held ∧ (windowOf (windowState [])).length = 0 ∧ (windowOf (windowState [0xFF#8])).length = 1 := by
  decide
theorem witness_LengthAloneDecidesSuccess :
    (windowState [0xFF#8]).hold = .held ∧ (windowOf (windowState [0xFF#8])).length < 2 ∧
    2 ≤ (windowOf (windowState [0xFF#8, 0xFF#8])).length := by decide
theorem witness_RemainderIsTheRestOfTheWindow :
    (windowState [0xFF#8]).hold = .held ∧ (windowOf (windowState [0xFF#8])).length = 1 ∧
    (windowOf (windowState [0xFF#8, 0xFF#8])).length = 2 ∧ (windowOf (windowState [0x80#8, 0x00#8, 0x3C#8])).length = 3 := by
  decide
theorem witness_StepMakesTheCallersAdvance :
    (usedState [0x80#8]).hold = .held ∧ (usedState [0x80#8, 0x00#8]).hold = .held ∧
    (∃ u rec, step (usedState [0x80#8, 0x00#8]) = .next u ∧ u.result = some (.ok [] rec)) ∧
    ∃ u, step (usedState [0x80#8]) = .next u ∧ u.result = some (.err .insufficientData) :=
  ⟨rfl, rfl, ⟨_, _, rfl, rfl⟩, _, rfl, rfl⟩
theorem witness_EveryInvocationCompletes : (usedState []).hold = .held ∧ (usedState [0xFF#8, 0xFF#8]).hold = .held := by decide
theorem witness_OnlyAChangingWindowIsRefused :
    step { State.reset with hold := .windowChanging } = .refused .windowChanging := rfl
theorem witness_MovingSampleObservesNothing :
    ({ usedState [0x80#8, 0x00#8] with hold := .portsMoving } : State).hold = .portsMoving := rfl
theorem witness_ResultDependsOnFirstTwoBytes :
    (windowState [0x80#8, 0x00#8]).hold = .held ∧ (usedState [0x80#8, 0x00#8, 0x3C#8]).hold = .held ∧
    (windowState []).typeRom = (usedState []).typeRom ∧ (windowState []).tables = (usedState []).tables ∧
    windowOf (windowState [0x80#8, 0x00#8]) = [0x80#8, 0x00#8] ∧
    windowOf (usedState [0x80#8, 0x00#8, 0x3C#8]) = [0x80#8, 0x00#8, 0x3C#8] ∧
    (windowOf (windowState [])).length < 2 ∧ (windowOf (usedState [0xFF#8])).length < 2 := by decide
theorem witness_HistoryDoesNotMatter :
    (windowState [0xB4#8, 0x01#8]).hold = .held ∧ (usedState [0xB4#8, 0x01#8]).hold = .held ∧
    (windowState [0xB4#8, 0x01#8]).typeRom = (usedState [0xB4#8, 0x01#8]).typeRom ∧
    (windowState [0xB4#8, 0x01#8]).tables = (usedState [0xB4#8, 0x01#8]).tables ∧
    windowOf (windowState [0xB4#8, 0x01#8]) = windowOf (usedState [0xB4#8, 0x01#8]) := by decide
theorem witness_RepeatedInvocationGivesTheSameResult :
    (windowState [0x80#8, 0x00#8]).hold = .held ∧ ∃ u, step (windowState [0x80#8, 0x00#8]) = .next u := ⟨rfl, _, rfl⟩
theorem witness_StepKeepsMemoryAndTables :
    (∃ u, step (usedState [0x80#8, 0x00#8]) = .next u) ∧ (∃ u, step (usedState []) = .next u) ∧
    ∃ u, step { usedState [] with hold := .portsMoving } = .next u := ⟨⟨_, rfl⟩, ⟨_, rfl⟩, _, rfl⟩
theorem witness_FailureLeavesNothingBehind :
    (usedState [0x88#8]).hold = .held ∧ (windowOf (usedState [0x88#8])).length < 2 ∧
    bytesFrom [(7, 0x88#8), (8, 0x42#8)] (usedState [0x88#8]).pos = [0x88#8, 0x42#8] := by decide
theorem witness_VersionPassesThroughUnchecked :
    (windowState [0x80#8, 0x00#8]).hold = .held ∧ (usedState [0x83#8, 0x00#8]).hold = .held ∧
    (windowState [0x80#8, 0x00#8]).typeRom = (usedState [0x83#8, 0x00#8]).typeRom ∧
    (windowState [0x80#8, 0x00#8]).tables = (usedState [0x83#8, 0x00#8]).tables ∧
    windowOf (windowState [0x80#8, 0x00#8]) = [0x80#8, 0x00#8] ∧ windowOf (usedState [0x83#8, 0x00#8]) = [0x83#8, 0x00#8] ∧
    (0x80#8 >>> 2 : BitVec 8) = 0x83#8 >>> 2 := by decide
theorem witness_FlagsPassThroughUninterpreted :
    (windowState [0x80#8, 0x00#8]).hold = .held ∧ (usedState [0x80#8, 0xFF#8]).hold = .held ∧
    (windowState [0x80#8, 0x00#8]).typeRom = (usedState [0x80#8, 0xFF#8]).typeRom ∧
    (windowState [0x80#8, 0x00#8]).tables = (usedState [0x80#8, 0xFF#8]).tables ∧
    windowOf (windowState [0x80#8, 0x00#8]) = [0x80#8, 0x00#8] ∧ windowOf (usedState [0x80#8, 0xFF#8]) = [0x80#8, 0xFF#8] := by
  decide
theorem witness_MachineObeysThePortEquations :
    (windowState [0xB4#8]).hold = .held ∧ (windowOf (windowState [0xB4#8]))[0]? = some 0xB4#8 ∧
    (windowOf (windowState [0xB4#8, 0x01#8]))[1]? = some 0x01#8 := by decide
theorem witness_PortsRealiseTheAbstractFunction :
    (⟨0xAB#8, 0xCD#8, 0#2⟩ : InPorts).inCnt = BitVec.ofNat 2 (min ([] : List Byte).length 3) ∧
    ((⟨0x80#8, 0xCD#8, 1#2⟩ : InPorts).inCnt = BitVec.ofNat 2 (min [0x80#8].length 3) ∧
      ∀ b, ([0x80#8] : List Byte)[0]? = some b → (⟨0x80#8, 0xCD#8, 1#2⟩ : InPorts).inB0 = b) ∧
    ((⟨0x80#8, 0x00#8, 2#2⟩ : InPorts).inCnt = BitVec.ofNat 2 (min [0x80#8, 0x00#8].length 3) ∧
      (∀ b, ([0x80#8, 0x00#8] : List Byte)[0]? = some b → (⟨0x80#8, 0x00#8, 2#2⟩ : InPorts).inB0 = b) ∧
      ∀ b, ([0x80#8, 0x00#8] : List Byte)[1]? = some b → (⟨0x80#8, 0x00#8, 2#2⟩ : InPorts).inB1 = b) := by
  simp
theorem witness_OutputLevelsAreWellFormed :
    (windowState [0xFF#8]).hold = .held ∧
    ∃ u, step (windowState [0xFF#8]) = .next u ∧ u.outPorts.ok = false := ⟨rfl, _, rfl, rfl⟩
theorem witness_FtypeShowsTheTypeCode :
    (windowState [0xFF#8, 0xFF#8]).hold = .held ∧ SourceTypeRom (windowState [0xFF#8, 0xFF#8]).typeRom ∧
    windowOf (windowState [0xFF#8, 0xFF#8]) = [0xFF#8, 0xFF#8] := by unfold SourceTypeRom; decide
theorem witness_SubtypeCodesAreTheListOrder :
    frameSubTypeOfCode 41#6 = some .unHandled ∧ frameSubTypeOfCode 42#6 = none ∧ frameSubTypeOfCode 63#6 = none := by decide
theorem witness_ConsumerReadsBackTheRecord :
    (windowState [0xF9#8, 0x4B#8]).hold = .held ∧
    (∃ u rec, step (windowState [0xF9#8, 0x4B#8]) = .next u ∧ u.result = some (.ok [] rec)) ∧
    ∃ u, step (windowState []) = .next u ∧ u.result = some (.err .insufficientData) :=
  ⟨rfl, ⟨_, _, rfl, rfl⟩, _, rfl, rfl⟩
theorem witness_WindowIsTheRunOfListedBytes :
    memoryWf (usedState [0x80#8, 0x00#8]).mem ∧ 1 < (windowOf (usedState [0x80#8, 0x00#8])).length := by decide
theorem witness_StreamOfWordsIsDecodedInOrder :
    (windowState [0xB4#8, 0x01#8, 0xC4#8, 0x00#8, 0x07#8]).hold = .held ∧ [0x07#8].length < 2 ∧
    windowOf (windowState [0xB4#8, 0x01#8, 0xC4#8, 0x00#8, 0x07#8]) =
      [Instr.ctrlRts 0#2 0x01#8, Instr.ctrlCts 0#2 0x00#8].flatMap encodeBytes ++ [0x07#8] := by decide
theorem witness_EveryStepKeepsTheInvariant :
    Inv (windowState [0x80#8, 0x00#8]) ∧ ∃ u, step (windowState [0x80#8, 0x00#8]) = .next u :=
  ⟨⟨by decide, fun _ => by decide, (fun _ _ h => nomatch h), (fun _ _ h => nomatch h)⟩, _, rfl⟩

end Sys2Proof.Tests
end

section
/-!
PROOFS. The family of spec 10_state.md: the four fields of the word of two bytes (rule R50), what a step on two bytes
answers, and the flags byte, which passes through whole (rule R20, rule R69).
-/
namespace Sys2Proof.Laws

open Sys2Proof.Machine

/-- Bits below 8 of a word are bits of its byte 0, whatever byte 1 is. -/
theorem extractLsb'_wordOfBytes_of_le (b0 b1 : Byte) (k n : Nat) (h : k + n ≤ 8) :
    (wordOfBytes b0 b1).extractLsb' k n = b0.extractLsb' k n :=
  calc (wordOfBytes b0 b1).extractLsb' k n
      = ((wordOfBytes b0 b1).extractLsb' 0 8).extractLsb' k n := by rw [BitVec.extractLsb'_extractLsb'_of_le h]
    _ = b0.extractLsb' k n := by rw [extract_low_wordOfBytes]

@[simp] theorem versionField_wordOfBytes (b0 b1 : Byte) : versionField (wordOfBytes b0 b1) = b0.extractLsb' 0 2 :=
  extractLsb'_wordOfBytes_of_le b0 b1 0 2 (by decide)

@[simp] theorem typeField_wordOfBytes (b0 b1 : Byte) : typeField (wordOfBytes b0 b1) = b0.extractLsb' 2 2 :=
  extractLsb'_wordOfBytes_of_le b0 b1 2 2 (by decide)

@[simp] theorem subtypeField_wordOfBytes (b0 b1 : Byte) : subtypeField (wordOfBytes b0 b1) = b0.extractLsb' 4 4 :=
  extractLsb'_wordOfBytes_of_le b0 b1 4 4 (by decide)

@[simp] theorem flagsField_wordOfBytes (b0 b1 : Byte) : flagsField (wordOfBytes b0 b1) = b1 :=
  extract_high_wordOfBytes b0 b1

/-- The record that the tables give for a window that begins with these two bytes. -/
def recordOfBytes (rom : Vector FrameType 4) (T : SubtypeTables) (b0 b1 : Byte) : FrameControl :=
  assembleRecord rom T (b0.extractLsb' 2 2) (b0.extractLsb' 4 4) (b0.extractLsb' 0 2) b1

/-- The state after a step on held inputs with two bytes in the window. -/
theorem step_next_of_two_bytes (s : State) (hh : s.hold = .held) (b0 b1 : Byte) (rest : List Byte)
    (hw : windowOf s = b0 :: b1 :: rest) :
    step s = .next (returnOk (recordOfBytes s.typeRom s.tables b0 b1) (b0.extractLsb' 2 2) (b0.extractLsb' 4 4)
      (applyInputs s)) := by
  rw [step_of_two_bytes s hh b0 b1 rest hw, classifyCell_next]
  simp [recordOfBytes]

/-- What the caller receives from that step, as a result and on the ports. -/
theorem step_answer_of_two_bytes (s : State) (hh : s.hold = .held) (b0 b1 : Byte) (rest : List Byte)
    (hw : windowOf s = b0 :: b1 :: rest) :
    ∃ u, step s = .next u ∧ u.result = some (.ok rest (recordOfBytes s.typeRom s.tables b0 b1)) ∧
      u.outPorts =
        successPorts (recordOfBytes s.typeRom s.tables b0 b1) (b0.extractLsb' 2 2) (b0.extractLsb' 4 4) :=
  ⟨_, step_next_of_two_bytes s hh b0 b1 rest hw, by simp [hw], returnOk_outPorts ..⟩

@[simp] theorem recordOfBytes_flags (rom : Vector FrameType 4) (T : SubtypeTables) (b0 b1 : Byte) :
    (recordOfBytes rom T b0 b1).flags = b1 := rfl

/-- Byte 1 is the record's field `flags` and enters no other field (rule R69). -/
theorem recordOfBytes_eq_flags_update (rom : Vector FrameType 4) (T : SubtypeTables) (b0 b1 b1' : Byte) :
    recordOfBytes rom T b0 b1' = { recordOfBytes rom T b0 b1 with flags := b1' } := rfl

@[simp] theorem successPorts_flagsO (r : FrameControl) (t : BitVec 2) (s : BitVec 4) :
    (successPorts r t s).flagsO = r.flags := rfl

/-- The record's flags reach the port `flags_o` and no other port (rule R26). -/
theorem successPorts_flags_update (r : FrameControl) (fl : BitVec 8) (t : BitVec 2) (s : BitVec 4) :
    successPorts { r with flags := fl } t s = { successPorts r t s with flagsO := fl } := rfl

end Sys2Proof.Laws

namespace Sys2Proof.Proofs

open Sys2Proof.Machine Sys2Proof.Laws

/-- Settles O39: byte 0 and the tables fix everything but the flags, so the two records differ by an update of `flags`, and
the ports that show them by an update of `flags_o`. -/
theorem flagsPassThroughUninterpreted : Obligations.FlagsPassThroughUninterpreted := by
  intro s1 s2 b0 b1 b1' rest hold1 hold2 hrom htables hw1 hw2
  obtain ⟨u1, hstep1, hresult1, hports1⟩ := step_answer_of_two_bytes s1 hold1 b0 b1 rest hw1
  obtain ⟨u2, hstep2, hresult2, hports2⟩ := step_answer_of_two_bytes s2 hold2 b0 b1' rest hw2
  rw [← hrom, ← htables] at hresult2 hports2
  have hrecords := recordOfBytes_eq_flags_update s1.typeRom s1.tables b0 b1 b1'
  have hflagsO : u1.outPorts.flagsO = b1 := by simp [hports1]
  have hports : u2.outPorts = { u1.outPorts with flagsO := b1' } := by
    rw [hports2, hrecords, successPorts_flags_update, ← hports1]
  exact ⟨u1, u2, _, _, hstep1, hstep2, hresult1, hresult2, recordOfBytes_flags .., recordOfBytes_flags .., hrecords,
    hflagsO, hports⟩

end Sys2Proof.Proofs
end

section
/-!
PROOFS. The family of spec 20_memory.md: the window of at least two bytes and its remainder (rule R33), what a step keeps
and so what a repeated invocation reads (rule R40), and the answer of a step as a function of the tables and the window.
-/
namespace Sys2Proof.Laws

open Sys2Proof.Machine

/-- A window of at least two bytes names the two that are read, and its rest is the caller's buffer two bytes on. -/
theorem window_of_two_le (s : State) (h : 2 ≤ (windowOf s).length) :
    ∃ b0 b1 rest, windowOf s = b0 :: b1 :: rest ∧ bytesFrom s.mem (s.pos + 2) = rest := by
  have hrest : bytesFrom s.mem (s.pos + 2) = (windowOf s).drop 2 := bytesFrom_add_two s.mem s.pos h
  match hw : windowOf s with
  | [] | [_] => simp [hw] at h
  | b0 :: b1 :: rest => exact ⟨b0, b1, rest, rfl, by simpa [hw] using hrest⟩

@[simp] theorem successPorts_consumed (r : FrameControl) (t : BitVec 2) (s : BitVec 4) :
    (successPorts r t s).consumed = 2#2 := rfl

/-- What the caller receives from a step on held inputs with fewer than two bytes; its position stays (rule R72). -/
theorem step_answer_of_short_window (s : State) (hh : s.hold = .held) (hw : (windowOf s).length < 2) :
    ∃ u, step s = .next u ∧ u.result = some (.err .insufficientData) ∧ u.outPorts = failurePorts ∧ u.pos = s.pos :=
  ⟨_, step_of_short_window s hh hw, by simp⟩

/-- No step changes a table, the memory or the caller's hold. -/
theorem step_frame (s t : State) (h : step s = .next t) :
    t.typeRom = s.typeRom ∧ t.tables = s.tables ∧ t.mem = s.mem ∧ t.hold = s.hold := by
  obtain ⟨_, _, _, _, _, rfl⟩ | ⟨_, _, rfl⟩ | ⟨_, rfl⟩ := step_cases s t h
  · simp
  · simp
  · simp

/-- The answer of a step on held inputs is a function of the tables and the window: another state that holds its inputs and
agrees in those receives the same result and the same ports. -/
theorem step_answer_of_same_window (s t u : State) (hs : s.hold = .held) (ht : t.hold = .held)
    (hrom : t.typeRom = s.typeRom) (htables : t.tables = s.tables) (hw : windowOf t = windowOf s)
    (hstep : step s = .next u) :
    ∃ v, step t = .next v ∧ v.result = u.result ∧ v.outPorts = u.outPorts := by
  rcases Nat.lt_or_ge (windowOf s).length 2 with hlen | hlen
  · obtain ⟨_, hu, hresult, hports, _⟩ := step_answer_of_short_window s hs hlen
    obtain ⟨v, hv, hresult', hports', _⟩ := step_answer_of_short_window t ht (hw ▸ hlen)
    cases hstep.symm.trans hu
    exact ⟨v, hv, hresult'.trans hresult.symm, hports'.trans hports.symm⟩
  · obtain ⟨b0, b1, rest, hbytes, _⟩ := window_of_two_le s hlen
    obtain ⟨_, hu, hresult, hports⟩ := step_answer_of_two_bytes s hs b0 b1 rest hbytes
    obtain ⟨v, hv, hresult', hports'⟩ := step_answer_of_two_bytes t ht b0 b1 rest (hw.trans hbytes)
    rw [hrom, htables] at hresult' hports'
    cases hstep.symm.trans hu
    exact ⟨v, hv, hresult'.trans hresult.symm, hports'.trans hports.symm⟩

end Sys2Proof.Laws

namespace Sys2Proof.Proofs

open Sys2Proof.Machine Sys2Proof.Laws

/-- Settles O28: the remainder is the tail of the window after the two bytes read, which is the window two bytes on. -/
theorem remainderIsTheRestOfTheWindow : Obligations.RemainderIsTheRestOfTheWindow := by
  intro st hold
  constructor
  · intro hlen
    obtain ⟨b0, b1, rest, hw, hrest⟩ := window_of_two_le st hlen
    obtain ⟨u, hstep, hresult, hports⟩ := step_answer_of_two_bytes st hold b0 b1 rest hw
    have hconsumed : u.outPorts.consumed = 2#2 := by rw [hports, successPorts_consumed]
    refine ⟨u, rest, _, hstep, hresult, fun k => ?_, hconsumed, ?_⟩
    · simp [hw]
    · rw [hconsumed]
      exact hrest.symm
  · intro hlen
    obtain ⟨u, hstep, hresult, _, hpos⟩ := step_answer_of_short_window st hold hlen
    exact ⟨u, hstep, by simp [hresult], hpos⟩

/-- Settles O33: record and ports are functions of the tables and the first two bytes, and a failure's answer is constant. -/
theorem resultDependsOnFirstTwoBytes : Obligations.ResultDependsOnFirstTwoBytes := by
  intro s1 s2 hold1 hold2 hrom htables
  constructor
  · intro b0 b1 r1 r2 hw1 hw2
    obtain ⟨u1, hstep1, hresult1, hports1⟩ := step_answer_of_two_bytes s1 hold1 b0 b1 r1 hw1
    obtain ⟨u2, hstep2, hresult2, hports2⟩ := step_answer_of_two_bytes s2 hold2 b0 b1 r2 hw2
    rw [← hrom, ← htables] at hresult2 hports2
    exact ⟨u1, u2, _, hstep1, hstep2, hports1.trans hports2.symm, hresult1, hresult2⟩
  · intro hlen1 hlen2
    obtain ⟨u1, hstep1, hresult1, hports1, _⟩ := step_answer_of_short_window s1 hold1 hlen1
    obtain ⟨u2, hstep2, hresult2, hports2, _⟩ := step_answer_of_short_window s2 hold2 hlen2
    exact ⟨u1, u2, hstep1, hstep2, hports1.trans hports2.symm, hresult1.trans hresult2.symm⟩

/-- Settles O35: a step keeps the tables, the memory and the hold, so with the position put back the second invocation reads
the first one's window under the same tables. -/
theorem repeatedInvocationGivesTheSameResult : Obligations.RepeatedInvocationGivesTheSameResult := by
  intro st u hstep
  obtain ⟨hrom, htables, hmem, hhold⟩ := step_frame st u hstep
  refine ⟨hmem, fun a => by rw [hmem], fun hold => ?_⟩
  have hwindow : windowOf { u with pos := st.pos } = windowOf st := by simp only [windowOf, hmem]
  obtain ⟨v, hv, hresult, hports⟩ :=
    step_answer_of_same_window st { u with pos := st.pos } u hold (hhold.trans hold) hrom htables hwindow hstep
  obtain ⟨_, _, hmem', _⟩ := step_frame _ v hv
  exact ⟨v, hv, hresult, hports, hmem'.trans hmem⟩

end Sys2Proof.Proofs
end

section
/-!
PROOFS. The family of spec 30_encoding.md: the bits of the fields read from two bytes (rule R50), and what the decoder
answers for a window of two bytes and for a shorter one (rule R56, rule R67).
-/
namespace Sys2Proof.Laws

@[simp] theorem decode_of_two_bytes (b0 b1 : Byte) (rest : List Byte) :
    decode (b0 :: b1 :: rest) = .ok (decodeWord (wordOfBytes b0 b1), rest) := rfl

/-- Fewer than two bytes are refused, by the only name there is. -/
theorem decode_of_short_window (w : List Byte) (h : w.length < 2) : decode w = .error .insufficientData := by
  match w with
  | [] | [_] => rfl
  | _ :: _ :: _ => simp at h

end Sys2Proof.Laws

namespace Sys2Proof.Proofs

open Sys2Proof.Laws

/-- Settles O4: each field of the word is an extraction from one byte, and its bits are that byte's from the field's position
on; by definition, the extraction that reads `s` is the shifted byte cut to its width. -/
theorem extractionReadsTheFieldBits : Obligations.ExtractionReadsTheFieldBits := by
  intro b0 b1
  rw [versionField_wordOfBytes, typeField_wordOfBytes, subtypeField_wordOfBytes]
  refine ⟨fun i hi => ?_, fun i hi => ?_, fun i hi => ?_, ?_, flagsField_wordOfBytes b0 b1⟩
  · simp [hi]
  · simp [hi]
  · simp [hi]
  · rfl

/-- Settles O6: a window is short, and refused, or begins with two bytes, and they decode. -/
theorem onlyTheLengthIsRefused : Obligations.OnlyTheLengthIsRefused := by
  refine ⟨fun b0 b1 rest => ⟨_, decode_of_two_bytes b0 b1 rest⟩, fun w e => ⟨fun hrefused => ?_, fun hshort => ?_⟩⟩
  · match w with
    | [] | [_] => simp
    | b0 :: b1 :: rest => simp [decode_of_two_bytes] at hrefused
  · cases e
    exact decode_of_short_window w hshort

end Sys2Proof.Proofs
end

section
/-!
PROOFS. The family of spec 40_decode.md: the pseudocode of DECODE on a window of two bytes and on a shorter one (rule R64,
rule R65, rule R71), what the length check decides (rule R67), and the failure (rule R72).
-/
namespace Sys2Proof.Laws

open Sys2Proof.Machine

/-- With two bytes the pseudocode gives the record that `recordOfBytes` gives: its extractions are the word's four fields. -/
@[simp] theorem decodeWindow_of_two_bytes (rom : Vector FrameType 4) (T : SubtypeTables) (b0 b1 : Byte)
    (rest : List Byte) : decodeWindow rom T (b0 :: b1 :: rest) = .ok rest (recordOfBytes rom T b0 b1) :=
  let w := wordOfBytes b0 b1
  calc decodeWindow rom T (b0 :: b1 :: rest)
      = .ok rest (assembleRecord rom T (typeField w) (subtypeField w) (versionField w) (flagsField w)) := rfl
    _ = .ok rest (recordOfBytes rom T b0 b1) := by simp [w, recordOfBytes]

/-- The pseudocode fails on a window of fewer than two bytes, and on no other (rule R67). -/
theorem decodeWindow_eq_err_iff (rom : Vector FrameType 4) (T : SubtypeTables) (w : List Byte) :
    decodeWindow rom T w = .err .insufficientData ↔ w.length < 2 := by
  match w with
  | [] | [_] => simp [decodeWindow]
  | _ :: _ :: _ => simp

/-- The pseudocode succeeds on a window of at least two bytes, and on no other (rule R67). -/
theorem exists_decodeWindow_eq_ok_iff (rom : Vector FrameType 4) (T : SubtypeTables) (w : List Byte) :
    (∃ rem rec, decodeWindow rom T w = .ok rem rec) ↔ 2 ≤ w.length := by
  match w with
  | [] | [_] => simp [decodeWindow]
  | _ :: _ :: _ => simp

/-- The result of a step on held inputs is the pseudocode's, on the window and under the tables that the state holds. -/
theorem step_result_eq_decodeWindow (s : State) (hh : s.hold = .held) :
    ∃ u, step s = .next u ∧ u.result = some (decodeWindow s.typeRom s.tables (windowOf s)) := by
  rcases Nat.lt_or_ge (windowOf s).length 2 with hlen | hlen
  · obtain ⟨u, hstep, hresult, _⟩ := step_answer_of_short_window s hh hlen
    rw [(decodeWindow_eq_err_iff ..).2 hlen]
    exact ⟨u, hstep, hresult⟩
  · obtain ⟨b0, b1, rest, hw, _⟩ := window_of_two_le s hlen
    obtain ⟨u, hstep, hresult, _⟩ := step_answer_of_two_bytes s hh b0 b1 rest hw
    rw [hw, decodeWindow_of_two_bytes]
    exact ⟨u, hstep, hresult⟩

end Sys2Proof.Laws

namespace Sys2Proof.Proofs

open Sys2Proof.Machine Sys2Proof.Laws

/-- Settles O25: on either side of the length check the step's result is the pseudocode's, and no step changes a table. -/
theorem machineRunsDecodePseudocode : Obligations.MachineRunsDecodePseudocode := by
  intro st hold
  obtain ⟨u, hstep, hresult⟩ := step_result_eq_decodeWindow st hold
  obtain ⟨hrom, htables, _⟩ := step_frame st u hstep
  exact ⟨u, hstep, hresult, hrom, htables⟩

/-- Settles O27: the step's result is the pseudocode's, and the window's length decides that one. -/
theorem lengthAloneDecidesSuccess : Obligations.LengthAloneDecidesSuccess := by
  intro st hold
  obtain ⟨u, hstep, hresult⟩ := step_result_eq_decodeWindow st hold
  refine ⟨u, hstep, ?_, ?_⟩
  · rw [hresult, Option.some_inj, decodeWindow_eq_err_iff]
  · simp only [hresult, Option.some_inj, exists_decodeWindow_eq_ok_iff]

/-- Settles O26: the step is the failure on the applied inputs, which drives `failurePorts` and keeps the caller's side. -/
theorem shortWindowGivesInsufficientData : Obligations.ShortWindowGivesInsufficientData := by
  intro st hold hlen
  refine ⟨_, step_of_short_window st hold hlen, raiseInsufficientData_result _, ?_, ?_, raiseInsufficientData_outPorts _⟩
  · simp
  · simp

end Sys2Proof.Proofs
end

section
/-!
PROOFS. The family of spec 41_type_classifier.md: the type code of a masked word and the type it gives (rules R74 to R77), the
row of type 3, which reads no sub-type table (rule R78), and the table that each classified type selects (rule R79).
-/
namespace Sys2Proof.Laws

open Sys2Proof.Machine Sys2Proof.Statements

@[simp] theorem subtype_management (T : SubtypeTables) (s : BitVec 4) :
    subtype T .management s = subtypeRomAt T.mgmt s := rfl
@[simp] theorem subtype_control (T : SubtypeTables) (s : BitVec 4) :
    subtype T .control s = subtypeRomAt T.ctrl s := rfl
@[simp] theorem subtype_data (T : SubtypeTables) (s : BitVec 4) :
    subtype T .data s = subtypeRomAt T.data s := rfl
@[simp] theorem subtype_unknown (T : SubtypeTables) (s : BitVec 4) : subtype T .unknown s = .unHandled := rfl

@[simp] theorem successPorts_ftype (r : FrameControl) (t : BitVec 2) (s : BitVec 4) :
    (successPorts r t s).ftype = frameTypeCode r.frameType := rfl
@[simp] theorem successPorts_fsub (r : FrameControl) (t : BitVec 2) (s : BitVec 4) :
    (successPorts r t s).fsub = frameSubTypeCode r.frameSubtype := rfl
@[simp] theorem successPorts_rawSub (r : FrameControl) (t : BitVec 2) (s : BitVec 4) :
    (successPorts r t s).rawSub = s := rfl

/-- The record once the type is known: the sub-type is that type's dispatch, whatever code led to it. -/
theorem assembleRecord_of_type {rom : Vector FrameType 4} {t : BitVec 2} {ft : FrameType} (h : typeRomAt rom t = ft)
    (T : SubtypeTables) (s : BitVec 4) (pv : BitVec 2) (fl : BitVec 8) :
    assembleRecord rom T t s pv fl =
      { protocolVersion := pv, frameType := ft, frameSubtype := subtype T ft s, flags := fl } := by
  subst h
  rfl

/-- The mask 0x000C has both type bits, so that it keeps the type code. -/
@[simp] theorem typeField_and_type_mask (fc : FcWord) : typeField (fc &&& 0x000C#16) = typeField fc := by
  have hmask : BitVec.extractLsb' 2 2 0x000C#16 = BitVec.allOnes 2 := by decide
  rw [typeField, BitVec.extractLsb'_and, hmask, BitVec.and_allOnes, typeField]

/-- The masked word fixes the type code. -/
theorem typeField_of_masked_word {fc bits : FcWord} (h : fc &&& 0x000C#16 = bits) : typeField fc = typeField bits := by
  rw [← h, typeField_and_type_mask]

/-- The low byte of a row word is the byte that rule R63 assembles from the fields. -/
theorem extract_low_rowWord (fl : BitVec 8) (s : BitVec 4) (t pv : BitVec 2) :
    (rowWord fl (s ++ t) pv).extractLsb' 0 8 = byteZeroOfFields pv t s := by
  apply BitVec.eq_of_getLsbD_eq
  intro i hi
  rw [BitVec.getLsbD_extractLsb', getLsbD_rowWord, getLsbD_selector]
  interval_cases i <;> simp [byteZeroOfFields]

/-- The window bytes of a row word (rule R34, rule R63). -/
theorem bytesOfWord_rowWord (fl : BitVec 8) (s : BitVec 4) (t pv : BitVec 2) :
    bytesOfWord (rowWord fl (s ++ t) pv) = [byteZeroOfFields pv t s, fl] := by
  have hhigh : (rowWord fl (s ++ t) pv).extractLsb' 8 8 = fl := flagsField_rowWord fl (s ++ t) pv
  rw [bytesOfWord, extract_low_rowWord, hhigh]

/-- Type 3 has one row, which takes the sub-type code as an operand. -/
theorem selectRow_three (s : BitVec 4) (pv : BitVec 2) (fl : BitVec 8) :
    selectRow 3#2 s pv fl = .unknownUnHandled s pv fl := rfl

/-- A word of type 3 decodes to that row with its own fields. -/
theorem decodeWord_of_type_three (fc : FcWord) (h : typeField fc = 3#2) :
    decodeWord fc = .unknownUnHandled (subtypeField fc) (versionField fc) (flagsField fc) := by
  rw [decodeWord, h, selectRow_three]

/-- The effect of the row of type 3, whatever TYPE_ROM and the sub-type tables hold. -/
theorem exec_unknownUnHandled (s : BitVec 4) (pv : BitVec 2) (fl : BitVec 8) (st : State) :
    exec (.unknownUnHandled s pv fl) st =
      .next (returnOk (assembleRecord st.typeRom st.tables 3#2 s pv fl) 3#2 s st) := by
  rw [← selectRow_three, exec_selectRow, classifyCell_next]

/-- The rule of a type code: the masked word has the code, the code is the type's own on the port, and the type's dispatch
is `select`. -/
theorem typeRule_of_dispatch {bits : FcWord} {t : BitVec 2} {ft : FrameType}
    {select : SubtypeTables → BitVec 4 → FrameSubType} (hbits : typeField bits = t) (hcode : frameTypeCode ft = t)
    (hselect : ∀ T s, subtype T ft s = select T s) : TypeRule bits t ft select := by
  intro st b0 b1 rest hold hrom hw hmask
  have htype : b0.extractLsb' 2 2 = t := by rw [← typeField_wordOfBytes b0 b1, typeField_of_masked_word hmask, hbits]
  obtain ⟨u, hstep, hresult, hports⟩ := step_answer_of_two_bytes st hold b0 b1 rest hw
  rw [recordOfBytes, htype, assembleRecord_of_type hrom] at hresult hports
  refine ⟨u, _, hstep, hresult, rfl, ?_, ?_⟩
  · rw [hports, successPorts_ftype, hcode]
  · rw [subtypeField_wordOfBytes]
    exact hselect ..

end Sys2Proof.Laws

namespace Sys2Proof.Proofs

open Sys2Proof.Machine Sys2Proof.Laws

/-- Settles O20: each code is its type's own code, and the dispatch of that type is the table the rule names. -/
theorem typeCodesClassify : Obligations.TypeCodesClassify := by
  refine ⟨⟨rfl, rfl, rfl, rfl⟩, ?management, ?control, ?data, ?unknown⟩
  case management => exact typeRule_of_dispatch (by decide) rfl subtype_management
  case control => exact typeRule_of_dispatch (by decide) rfl subtype_control
  case data => exact typeRule_of_dispatch (by decide) rfl subtype_data
  case unknown => exact typeRule_of_dispatch (by decide) rfl subtype_unknown

/-- Settles O19: the mask fixes the type code, which selects the row; TYPE_ROM gives `Unknown`, whose dispatch reads no
table; and the ports show the code that came with the row. -/
theorem unknownTypeRowClassifies : Obligations.UnknownTypeRowClassifies := by
  refine ⟨fun fc hmask => ?words, fun s pv fl => ?bytes, fun s pv fl st hrom => ?effect⟩
  case words =>
    have htype : typeField fc = 3#2 := typeField_of_masked_word hmask
    exact ⟨htype, decodeWord_of_type_three fc htype⟩
  case bytes => exact bytesOfWord_rowWord fl s 3#2 pv
  case effect =>
    have hrecord := assembleRecord_of_type hrom st.tables s pv fl
    rw [subtype_unknown] at hrecord
    refine ⟨_, (windowOf st).drop 2, exec_unknownUnHandled s pv fl st, ?_, ?_, ?_⟩
    · rw [hrecord, returnOk_result]
    · rw [hrecord, returnOk_outPorts, successPorts_fsub]
      rfl
    · rw [returnOk_outPorts, successPorts_rawSub]

/-- Settles O21: the dispatch of each classified type, one lemma a type. -/
theorem subtypeDispatchByClassifiedType : Obligations.SubtypeDispatchByClassifiedType :=
  fun T s => ⟨subtype_management T s, subtype_control T s, subtype_data T s, subtype_unknown T s⟩

end Sys2Proof.Proofs
end

section
/-!
PROOFS. The family of spec 42_management_subtypes.md: what the mask 0x00FC fixes of a word (rule R52), the encoding of the
row that a type code and a sub-type code select (rule R53, rule R63), and the rule of a cell that the source fixes.
-/
namespace Sys2Proof.Laws

open Sys2Proof.Machine Sys2Proof.Statements

/-- A mask whose bits over a field are all ones keeps the field. -/
theorem extractLsb'_and_of_allOnes (fc : FcWord) {mask : FcWord} {k n : Nat}
    (h : mask.extractLsb' k n = BitVec.allOnes n) : (fc &&& mask).extractLsb' k n = fc.extractLsb' k n := by
  rw [BitVec.extractLsb'_and, h, BitVec.and_allOnes]

@[simp] theorem typeField_and_row_mask (fc : FcWord) : typeField (fc &&& 0x00FC#16) = typeField fc :=
  extractLsb'_and_of_allOnes fc (by decide)

@[simp] theorem subtypeField_and_row_mask (fc : FcWord) : subtypeField (fc &&& 0x00FC#16) = subtypeField fc :=
  extractLsb'_and_of_allOnes fc (by decide)

/-- The word masked with 0x00FC fixes the row; the version and the flags stay the row's operands (rule R51, rule R52). -/
theorem row_of_masked_word {fc bits : FcWord} (h : fc &&& 0x00FC#16 = bits) :
    typeField fc = typeField bits ∧ subtypeField fc = subtypeField bits ∧
      decodeWord fc = selectRow (typeField bits) (subtypeField bits) (versionField fc) (flagsField fc) := by
  subst h
  simp [decodeWord]

/-- The pattern string of the row that (t, s) selects has the two codes as its fixed bits (rule R53). -/
theorem encode_selectRow (t : BitVec 2) (s : BitVec 4) (pv : BitVec 2) (fl : BitVec 8) :
    encode (selectRow t s pv fl) = rowWord fl (s ++ t) pv := by
  rcases typeCode_cases t with rfl | rfl | rfl | rfl
  case inr.inr.inr => rfl
  all_goals
    rcases subtypeCode_cases s with
      rfl | rfl | rfl | rfl | rfl | rfl | rfl | rfl | rfl | rfl | rfl | rfl | rfl | rfl | rfl | rfl <;> rfl

/-- The bytes that carry the row that (t, s) selects (rule R63). -/
theorem encodeBytes_selectRow (t : BitVec 2) (s : BitVec 4) (pv : BitVec 2) (fl : BitVec 8) :
    encodeBytes (selectRow t s pv fl) = [byteZeroOfFields pv t s, fl] := by
  rw [encodeBytes, encode_selectRow, bytesOfWord_rowWord]

/-- The effect of the row that (t, s) selects, once TYPE_ROM gives the type and the type's dispatch the member. -/
theorem exec_selectRow_of_cell {st : State} {t : BitVec 2} {s : BitVec 4} {ft : FrameType} {fs : FrameSubType}
    (htype : typeRomAt st.typeRom t = ft) (hcell : subtype st.tables ft s = fs) (pv : BitVec 2) (fl : BitVec 8) :
    exec (selectRow t s pv fl) st =
      .next (returnOk { protocolVersion := pv, frameType := ft, frameSubtype := fs, flags := fl } t s st) := by
  rw [exec_selectRow, classifyCell_next, assembleRecord_of_type htype, hcell]

/-- The rule of a source-fixed cell, from what is its own: its row, the codes in its match bits, its content at reset, the
table that its type reads, and its member's code. -/
theorem sourceCellRule_of_cell {row : BitVec 2 → BitVec 8 → Instr} {bits : BitVec 16} {t : BitVec 2} {s : BitVec 4}
    {cell : SubtypeTables → FrameSubType} {ft : FrameType} {fs : FrameSubType} {fsub : BitVec 6}
    (hrow : selectRow t s = row) (htype : typeField bits = t) (hsubtype : subtypeField bits = s)
    (hreset : cell State.reset.tables = fs) (hdispatch : ∀ T, subtype T ft s = cell T)
    (hcode : frameSubTypeCode fs = fsub) : SourceCellRule row bits t s cell ft fs fsub := by
  subst hrow htype hsubtype hcode
  refine ⟨hreset, fun fc => row_of_masked_word, encodeBytes_selectRow _ _, fun pv fl st hrom hcell => ?_⟩
  have hexec := exec_selectRow_of_cell hrom ((hdispatch st.tables).trans hcell) pv fl
  exact ⟨_, _, hexec, returnOk_result .., by rw [returnOk_outPorts, successPorts_fsub],
    by rw [returnOk_outPorts, successPorts_rawSub]⟩

end Sys2Proof.Laws

namespace Sys2Proof.Proofs

open Sys2Proof.Machine Sys2Proof.Laws

/-- Settles O18: each cell's row and match bits are those of its two codes, and its type's dispatch reads the table the rule
names. -/
theorem sourceFixedCellsClassify : Obligations.SourceFixedCellsClassify := by
  refine ⟨?beacon, ?ctrlReserved0, ?ctrlReserved1, ?rts, ?qos, ?dataReserved13⟩
  case beacon =>
    exact sourceCellRule_of_cell rfl (by decide) (by decide) rfl (fun T => subtype_management T 8#4) rfl
  case ctrlReserved0 =>
    exact sourceCellRule_of_cell rfl (by decide) (by decide) rfl (fun T => subtype_control T 0#4) rfl
  case ctrlReserved1 =>
    exact sourceCellRule_of_cell rfl (by decide) (by decide) rfl (fun T => subtype_control T 1#4) rfl
  case rts =>
    exact sourceCellRule_of_cell rfl (by decide) (by decide) rfl (fun T => subtype_control T 11#4) rfl
  case qos =>
    exact sourceCellRule_of_cell rfl (by decide) (by decide) rfl (fun T => subtype_data T 8#4) rfl
  case dataReserved13 =>
    exact sourceCellRule_of_cell rfl (by decide) (by decide) rfl (fun T => subtype_data T 13#4) rfl

end Sys2Proof.Proofs
end

section
/-!
PROOFS. The family of spec 70_reset_and_hazards.md: termination (rule R154) and determinism over time (rule R155).
-/
namespace Sys2Proof.Proofs

open Sys2Proof.Machine Sys2Proof.Laws

/-- Settles O30: the pseudocode has a result on every window and the step completes with it; a step that has a next state is
no other outcome. -/
theorem everyInvocationCompletes : Obligations.EveryInvocationCompletes := by
  intro st hold
  obtain ⟨u, hstep, _⟩ := step_result_eq_decodeWindow st hold
  refine ⟨⟨u, hstep⟩, fun f hfault => ?_, fun r hrefused => ?_⟩
  · cases hstep.symm.trans hfault
  · cases hstep.symm.trans hrefused

/-- Settles O34: both invocations complete, and the answer is a function of the tables and the window alone. -/
theorem historyDoesNotMatter : Obligations.HistoryDoesNotMatter := by
  intro s1 s2 hold1 hold2 hrom htables hwindow
  obtain ⟨⟨u2, hstep2⟩, _⟩ := everyInvocationCompletes s2 hold2
  obtain ⟨u1, hstep1, hresult, hports⟩ :=
    step_answer_of_same_window s2 s1 u2 hold2 hold1 hrom htables hwindow hstep2
  exact ⟨u1, u2, hstep1, hstep2, hresult, hports⟩

end Sys2Proof.Proofs
end

section
/-!
PROOFS. Decoder and encoder against each other (spec 30_encoding.md section 5): the word, the window bytes and the table
word of an instruction decode to it, a decoded window encodes to its bytes, and the extraction undoes rule R63.
-/
namespace Sys2Proof.Laws

open Sys2Proof.Machine

/-- The low two selector bits of a row word are its type code. -/
theorem typeField_rowWord_append (fl : BitVec 8) (s : BitVec 4) (t pv : BitVec 2) :
    typeField (rowWord fl (s ++ t) pv) = t :=
  (typeField_rowWord ..).trans BitVec.extractLsb'_append_eq_right

/-- The high four selector bits of a row word are its sub-type code. -/
theorem subtypeField_rowWord_append (fl : BitVec 8) (s : BitVec 4) (t pv : BitVec 2) :
    subtypeField (rowWord fl (s ++ t) pv) = s :=
  (subtypeField_rowWord ..).trans BitVec.extractLsb'_append_eq_left

/-- The decoder selects the row by the word's own two codes (rule R51). -/
theorem decodeWord_rowWord (fl : BitVec 8) (s : BitVec 4) (t pv : BitVec 2) :
    decodeWord (rowWord fl (s ++ t) pv) = selectRow t s pv fl := by
  rw [decodeWord, typeField_rowWord_append, subtypeField_rowWord_append, versionField_rowWord, flagsField_rowWord]

@[simp] theorem decodeWord_encode (i : Instr) : decodeWord (encode i) = i := by
  cases i
  case unknownUnHandled s pv fl => exact decodeWord_rowWord fl s 3#2 pv
  all_goals
    simp only [encode, decodeWord, typeField_rowWord, subtypeField_rowWord, versionField_rowWord, flagsField_rowWord]
    rfl

@[simp] theorem encode_decodeWord (fc : FcWord) : encode (decodeWord fc) = fc := by
  rw [decodeWord, encode_selectRow, rowWord_of_fields]

/-- A window that begins with the bytes of a word decodes that word and leaves what follows. -/
theorem decode_bytesOfWord_append (fc : FcWord) (rest : List Byte) :
    decode (bytesOfWord fc ++ rest) = .ok (decodeWord fc, rest) := by
  simp [bytesOfWord, wordOfBytes_extract]

theorem decode_encodeBytes_append (i : Instr) (rest : List Byte) : decode (encodeBytes i ++ rest) = .ok (i, rest) := by
  rw [encodeBytes, decode_bytesOfWord_append, decodeWord_encode]

/-- The bytes of a word assembled from two bytes are those two (rule R34). -/
theorem bytesOfWord_wordOfBytes (b0 b1 : Byte) : bytesOfWord (wordOfBytes b0 b1) = [b0, b1] := by
  rw [bytesOfWord, extract_low_wordOfBytes, extract_high_wordOfBytes]

/-- The word whose byte 0 is rule R63's byte of the fields is the row word of those fields. -/
theorem wordOfBytes_byteZeroOfFields (pv t : BitVec 2) (s : BitVec 4) (fl : BitVec 8) :
    wordOfBytes (byteZeroOfFields pv t s) fl = rowWord fl (s ++ t) pv := by
  have hhigh : (rowWord fl (s ++ t) pv).extractLsb' 8 8 = fl := flagsField_rowWord fl (s ++ t) pv
  rw [← extract_low_rowWord fl, ← wordOfBytes_extract (rowWord fl (s ++ t) pv), hhigh, extract_low_wordOfBytes]

/-- Rule R63 assembles a byte back from its own fields. -/
theorem byteZeroOfFields_extract (b : Byte) :
    byteZeroOfFields (b.extractLsb' 0 2) (b.extractLsb' 2 2) (b.extractLsb' 4 4) = b := by
  have hword := rowWord_of_fields (wordOfBytes b 0#8)
  rw [versionField_wordOfBytes, typeField_wordOfBytes, subtypeField_wordOfBytes, flagsField_wordOfBytes] at hword
  rw [← extract_low_rowWord 0#8, hword, extract_low_wordOfBytes]

/-- The extraction of the pseudocode reads the four fields of the assembled word (rule R65). -/
theorem extract_eq_fields (b0 b1 : Byte) (rest : List Byte) :
    extract b0 b1 rest =
      (versionField (wordOfBytes b0 b1), typeField (wordOfBytes b0 b1), subtypeField (wordOfBytes b0 b1),
        flagsField (wordOfBytes b0 b1), rest) := rfl

/-- A word of FC16, numbered as the opcode table numbers it, has the word's own bytes. -/
theorem bytesOfTableWord_toNat (fc : FcWord) : bytesOfTableWord 16 fc.toNat = bytesOfWord fc := by
  rw [bytesOfTableWord, Nat.mod_eq_of_lt fc.isLt, BitVec.ofNat_toNat, BitVec.setWidth_eq]

theorem decodeTableWord_encode (i : Instr) : decodeTableWord 16 (encode i).toNat = some i := by
  have hdecode : decode (bytesOfWord (encode i)) = .ok (i, []) := decode_encodeBytes_append i []
  rw [decodeTableWord, bytesOfTableWord_toNat, hdecode]

/-- Placing an instruction by its table word places its two bytes. -/
theorem withFetchWord_encode (st : State) (i : Instr) :
    st.withFetchWord 16 (encode i).toNat = placeWindow (encodeBytes i) st := by
  rw [State.withFetchWord, bytesOfTableWord_toNat, encodeBytes]

/-- The placed instruction begins the window, whatever the memory listed before. -/
theorem windowOf_placeWindow_encodeBytes (st : State) (i : Instr) :
    ∃ r, windowOf (placeWindow (encodeBytes i) st) = encodeBytes i ++ r :=
  windowOf_placeWindow_two _ _ st

/-- A sequence of writes leaves every byte outside its addresses. -/
theorem readByte_writeBytes_of_outside (m : Memory) (a x : Nat) (bs : List Byte) (h : x < a ∨ a + bs.length ≤ x) :
    readByte (writeBytes m a bs) x = readByte m x := by
  induction bs generalizing m a with
  | nil => rfl
  | cons b bs ih =>
    rw [List.length_cons] at h
    rw [writeBytes, ih _ _ (by omega), readByte_writeByte_other m a x b (by omega)]

/-- A step on held inputs executes what the window decodes to. -/
theorem step_of_decode {s : State} {i : Instr} {rest : List Byte} (hh : s.hold = .held)
    (hdecode : decode (windowOf s) = .ok (i, rest)) : step s = exec i (applyInputs s) := by
  simp only [step, hh, hdecode]

end Sys2Proof.Laws

namespace Sys2Proof.Proofs

open Sys2Proof.Machine Sys2Proof.Laws

/-- Settles O1: the two bytes assemble to the instruction's word, and that word selects the instruction's own row. -/
theorem decodeOfEncodeIsIdentity : Obligations.DecodeOfEncodeIsIdentity :=
  fun i rest _ => decode_encodeBytes_append i rest

/-- Settles O2: the decoded instruction's word is the word of the two bytes, which are that word's bytes. -/
theorem encodeOfDecodeIsIdentity : Obligations.EncodeOfDecodeIsIdentity := by
  intro b0 b1 rest i rem hdecode
  obtain ⟨rfl, rfl⟩ : decodeWord (wordOfBytes b0 b1) = i ∧ rest = rem := by simpa using hdecode
  rw [encodeBytes, encode_decodeWord, bytesOfWord_wordOfBytes]
  exact ⟨rfl, rfl⟩

/-- Settles O5: the extraction and the ports show the four fields of byte 0 and byte 1, from which rule R63 gives the bytes
back; sub-types 0 and 1 of control are both `Reserved`, and so the record has lost the sub-type code. -/
theorem roundTripHoldsAtThePortsOnly : Obligations.RoundTripHoldsAtThePortsOnly := by
  refine ⟨fun pv t s fl rest => ?extraction, fun st b0 b1 rest hold hw => ?ports, by decide⟩
  case extraction =>
    rw [extract_eq_fields, wordOfBytes_byteZeroOfFields, versionField_rowWord, typeField_rowWord_append,
      subtypeField_rowWord_append, flagsField_rowWord]
  case ports =>
    obtain ⟨u, hstep, _, hports⟩ := step_answer_of_two_bytes st hold b0 b1 rest hw
    refine ⟨u, hstep, ?_, ?_⟩
    · rw [hports]
      exact byteZeroOfFields_extract b0
    · rw [hports, successPorts_flagsO, recordOfBytes_flags]

/-- Settles O7: each window is the bytes of its row. -/
theorem writtenOutWordsDecode : Obligations.WrittenOutWordsDecode :=
  ⟨decode_encodeBytes_append (.mgmtBeacon 0#2 0x00#8) [], decode_encodeBytes_append (.ctrlRts 0#2 0x01#8) [],
    decode_encodeBytes_append (.dataQoS 0#2 0xFF#8) [], decode_encodeBytes_append (.unknownUnHandled 15#4 1#2 0x12#8) []⟩

/-- Settles O9: the placed bytes are those of the instruction, they begin the window, and no other address is written. -/
theorem placedInstructionIsRun : Obligations.PlacedInstructionIsRun := by
  intro st i
  refine ⟨decodeTableWord_encode i, ?_⟩
  rw [withFetchWord_encode]
  refine ⟨?step, placeWindow_pos .., fun a h0 h1 => ?frame⟩
  case step =>
    obtain ⟨r, hw⟩ := windowOf_placeWindow_encodeBytes st i
    exact step_of_decode (placeWindow_hold ..) (hw ▸ decode_encodeBytes_append i r)
  case frame =>
    have houtside : a < st.pos ∨ st.pos + (encodeBytes i).length ≤ a := by
      show a < st.pos ∨ st.pos + 2 ≤ a
      omega
    rw [placeWindow_mem, readByte_writeBytes_of_outside _ _ _ _ houtside]

end Sys2Proof.Proofs
end

section
/-!
PROOFS. The rows of the opcode table as matches and masks (spec 30_encoding.md section 2, rule R52): each row is the row of
a cell, and the mask compares a word's own codes with the cell's.
-/
namespace Sys2Proof.Laws

/-- The match and mask of the cell (t, s): the six selector bits, or for type 3 the type bits alone. -/
def rowOfCell (t : BitVec 2) (s : BitVec 4) : OpcodeRow :=
  if t = 3#2 then ⟨0x000C#16, 0x000C#16⟩ else ⟨(s.setWidth 16 <<< 4) ||| (t.setWidth 16 <<< 2), 0x00FC#16⟩

/-- The row that an instruction comes from is the row of the cell that selects it. -/
theorem opcodeRow_selectRow (t : BitVec 2) (s : BitVec 4) (pv : BitVec 2) (fl : BitVec 8) :
    opcodeRow (selectRow t s pv fl) = rowOfCell t s := by
  rcases typeCode_cases t with rfl | rfl | rfl | rfl
  case inr.inr.inr => rfl
  all_goals
    rcases subtypeCode_cases s with
      rfl | rfl | rfl | rfl | rfl | rfl | rfl | rfl | rfl | rfl | rfl | rfl | rfl | rfl | rfl | rfl <;> rfl

theorem opcodeRow_decodeWord (fc : FcWord) :
    opcodeRow (decodeWord fc) = rowOfCell (typeField fc) (subtypeField fc) :=
  opcodeRow_selectRow ..

theorem rowOfCell_mem_opcodeRows : ∀ t s, rowOfCell t s ∈ opcodeRows := by decide

theorem exists_rowOfCell_of_mem : ∀ r ∈ opcodeRows, ∃ t s, r = rowOfCell t s := by decide

theorem opcodeRows_nodup : opcodeRows.Nodup := by decide

/-- The match of a cell of types 0 to 2 is its pattern with zero operands. -/
theorem matchBits_eq_rowWord : ∀ (t : BitVec 2) (s : BitVec 4),
    (s.setWidth 16 <<< 4) ||| (t.setWidth 16 <<< 2) = rowWord 0#8 (s ++ t) 0#2 := by decide

/-- Masking a word with 0x00FC leaves the pattern of its own cell. -/
theorem and_row_mask (fc : FcWord) : fc &&& 0x00FC#16 = rowWord 0#8 (subtypeField fc ++ typeField fc) 0#2 := by
  rw [← rowWord_and_mask (flagsField fc) _ (versionField fc), rowWord_of_fields]

/-- Masking a word with 0x000C leaves its type code. -/
theorem and_type_mask (fc : FcWord) : fc &&& 0x000C#16 = rowWord 0#8 (0#4 ++ typeField fc) 0#2 := by
  rw [← rowWord_and_type_mask (flagsField fc) (subtypeField fc) _ (versionField fc), rowWord_of_fields]

/-- A pattern with zero operands determines its two codes. -/
theorem rowWord_append_inj (s s' : BitVec 4) (t t' : BitVec 2) :
    rowWord 0#8 (s ++ t) 0#2 = rowWord 0#8 (s' ++ t') 0#2 ↔ t = t' ∧ s = s' := by
  constructor
  · intro h
    have ht := congrArg typeField h
    have hs := congrArg subtypeField h
    rw [typeField_rowWord_append, typeField_rowWord_append] at ht
    rw [subtypeField_rowWord_append, subtypeField_rowWord_append] at hs
    exact ⟨ht, hs⟩
  · rintro ⟨rfl, rfl⟩
    rfl

/-- Cells have one row if they are both of type 3, or are the same cell. -/
theorem rowOfCell_inj (t t' : BitVec 2) (s s' : BitVec 4) :
    rowOfCell t s = rowOfCell t' s' ↔ t = t' ∧ (t = 3#2 ∨ s = s') := by
  by_cases ht : t = 3#2 <;> by_cases ht' : t' = 3#2
  · simp [rowOfCell, ht, ht']
  · simp [rowOfCell, ht, ht', Ne.symm ht']
  · simp [rowOfCell, ht, ht']
  · simp only [rowOfCell, ht, ht', if_false, OpcodeRow.mk.injEq, and_true, false_or, matchBits_eq_rowWord,
      rowWord_append_inj]

/-- The row of a cell selects the words that carry its type code and, but for type 3, its sub-type code. -/
theorem rowSelects_rowOfCell_iff (t : BitVec 2) (s : BitVec 4) (fc : FcWord) :
    rowSelects (rowOfCell t s) fc = true ↔ t = typeField fc ∧ (t = 3#2 ∨ s = subtypeField fc) := by
  by_cases ht : t = 3#2
  · subst ht
    have hmask : 0x000C#16 = rowWord 0#8 (0#4 ++ 3#2) 0#2 := by decide
    rw [rowSelects, rowOfCell, if_pos rfl, decide_eq_true_iff, and_type_mask, hmask, rowWord_append_inj]
    simp [eq_comm]
  · rw [rowSelects, rowOfCell, if_neg ht, decide_eq_true_iff, and_row_mask, matchBits_eq_rowWord, rowWord_append_inj]
    simp [ht, eq_comm]

end Sys2Proof.Laws

namespace Sys2Proof.Proofs

open Sys2Proof.Laws

/-- Settles O3: a row of the table is the row of a cell, and it selects a word exactly when that cell and the word's own
have one row. -/
theorem everyWordSelectsExactlyOneRow : Obligations.EveryWordSelectsExactlyOneRow := by
  refine ⟨fun t s ht => ?cells, rowOfCell_mem_opcodeRows 3#2 0#4, rfl, opcodeRows_nodup, fun fc => ?own,
    fun fc r hr => ?selects⟩
  case cells =>
    have hmem := rowOfCell_mem_opcodeRows t s
    rwa [rowOfCell, if_neg ht] at hmem
  case own =>
    rw [opcodeRow_decodeWord]
    exact rowOfCell_mem_opcodeRows ..
  case selects =>
    obtain ⟨t, s, rfl⟩ := exists_rowOfCell_of_mem r hr
    rw [rowSelects_rowOfCell_iff, opcodeRow_decodeWord, rowOfCell_inj]

end Sys2Proof.Proofs
end

section
/-!
PROOFS. The effect of all 49 instructions: the next state under any tables (D1), its frame, and the rules of the 48 cells of
spec 42_management_subtypes.md, 43_control_subtypes.md and 44_data_subtypes.md.
-/
namespace Sys2Proof.Laws

open Sys2Proof.Machine Sys2Proof.Statements

/-- The success of the shared operation, with the record's codes written out on the ports. -/
theorem returnOk_eq_afterOk (r : FrameControl) (t : BitVec 2) (s : BitVec 4) (st : State) :
    returnOk r t s st = afterOk st r (frameTypeCode r.frameType) (frameSubTypeCode r.frameSubtype) t s := rfl

/-- The record that the tables give for an instruction: the classification of its own word. -/
def recordOfInstr (rom : Vector FrameType 4) (T : SubtypeTables) (i : Instr) : FrameControl :=
  assembleRecord rom T (typeField (encode i)) (subtypeField (encode i)) (versionField (encode i)) (flagsField (encode i))

/-- The next state of any instruction is the success with the record that the held tables give for it. -/
theorem exec_next (i : Instr) (st : State) :
    exec i st =
      .next (returnOk (recordOfInstr st.typeRom st.tables i) (typeField (encode i)) (subtypeField (encode i)) st) := by
  rw [exec_classifies, classifyCell_next]
  rfl

/-- The rule of a cell, from what is its own: its row, the codes in its match bits, the table that its type reads, and the
codes of its type and its member. -/
theorem cellRule_of_cell {row : BitVec 2 → BitVec 8 → Instr} {bits : BitVec 16} {t : BitVec 2} {s : BitVec 4}
    {cell : SubtypeTables → FrameSubType} {ft : FrameType} {fs : FrameSubType} {ftype : BitVec 2} {fsub : BitVec 6}
    (hdispatch : ∀ T, subtype T ft s = cell T) (hrow : selectRow t s = row) (htype : typeField bits = t)
    (hsubtype : subtypeField bits = s) (hftype : frameTypeCode ft = ftype) (hfsub : frameSubTypeCode fs = fsub) :
    CellRule row bits t s cell ft fs ftype fsub := by
  subst hrow htype hsubtype hftype hfsub
  refine ⟨fun fc => row_of_masked_word, encodeBytes_selectRow _ _, fun pv fl st hrom hcell => ?_⟩
  rw [exec_selectRow_of_cell hrom ((hdispatch st.tables).trans hcell), returnOk_eq_afterOk]

end Sys2Proof.Laws

namespace Sys2Proof.Proofs

open Sys2Proof.Machine Sys2Proof.Laws

/-- Settles O10: the fields of the word are the extractions the statement writes out, and the dispatch is its match on the
classified type. -/
theorem everyInstructionCompletesByTheHeldTables : Obligations.EveryInstructionCompletesByTheHeldTables := by
  intro i st w ft fs
  rw [exec_next, returnOk_eq_afterOk]
  rfl

/-- Settles O11: the frame is `exec_frame`; the position and the records are those of the success. -/
theorem frameOfEveryInstruction : Obligations.FrameOfEveryInstruction := by
  intro i st t hexec
  obtain ⟨hrom, htables, hmem, hhold, hin, hdraws⟩ := exec_frame i st t hexec
  rw [exec_next] at hexec
  cases hexec
  exact ⟨hrom, htables, hmem, fun a => by rw [hmem], hhold, hin, hdraws, returnOk_pos .., _, returnOk_records ..⟩

/-- Settles O12: each row and its match bits are those of the cell's two codes, and the dispatch of its type reads MGMT_ROM. -/
theorem managementCellsZeroToSeven : Obligations.ManagementCellsZeroToSeven := by
  refine ⟨?_, ?_, ?_, ?_, ?_, ?_, ?_, ?_⟩
  all_goals exact cellRule_of_cell (fun T => subtype_management T _) rfl (by decide) (by decide) rfl rfl

/-- Settles O13: each row and its match bits are those of the cell's two codes, and the dispatch of its type reads MGMT_ROM. -/
theorem managementCellsEightToFifteen : Obligations.ManagementCellsEightToFifteen := by
  refine ⟨?_, ?_, ?_, ?_, ?_, ?_, ?_, ?_⟩
  all_goals exact cellRule_of_cell (fun T => subtype_management T _) rfl (by decide) (by decide) rfl rfl

/-- Settles O14: each row and its match bits are those of the cell's two codes, and the dispatch of its type reads CTRL_ROM. -/
theorem controlCellsZeroToSeven : Obligations.ControlCellsZeroToSeven := by
  refine ⟨?_, ?_, ?_, ?_, ?_, ?_, ?_, ?_⟩
  all_goals exact cellRule_of_cell (fun T => subtype_control T _) rfl (by decide) (by decide) rfl rfl

/-- Settles O15: each row and its match bits are those of the cell's two codes, and the dispatch of its type reads CTRL_ROM. -/
theorem controlCellsEightToFifteen : Obligations.ControlCellsEightToFifteen := by
  refine ⟨?_, ?_, ?_, ?_, ?_, ?_, ?_, ?_⟩
  all_goals exact cellRule_of_cell (fun T => subtype_control T _) rfl (by decide) (by decide) rfl rfl

/-- Settles O16: each row and its match bits are those of the cell's two codes, and the dispatch of its type reads DATA_ROM. -/
theorem dataCellsZeroToSeven : Obligations.DataCellsZeroToSeven := by
  refine ⟨?_, ?_, ?_, ?_, ?_, ?_, ?_, ?_⟩
  all_goals exact cellRule_of_cell (fun T => subtype_data T _) rfl (by decide) (by decide) rfl rfl

/-- Settles O17: each row and its match bits are those of the cell's two codes, and the dispatch of its type reads DATA_ROM. -/
theorem dataCellsEightToFifteen : Obligations.DataCellsEightToFifteen := by
  refine ⟨?_, ?_, ?_, ?_, ?_, ?_, ?_, ?_⟩
  all_goals exact cellRule_of_cell (fun T => subtype_data T _) rfl (by decide) (by decide) rfl rfl

end Sys2Proof.Proofs
end

section
/-!
PROOFS. The nine output ports (spec 10_state.md section 3, 30_encoding.md section 4, 40_decode.md section 1): the port
equations on either side of the count, the input ports that stand for a window, the codes of types and sub-types, and a
consumer's reading of the ports.
-/
namespace Sys2Proof.Laws

open Sys2Proof.Machine Sys2Proof.Safety

/-- With a count of at least 2 the equations show the record of the two byte inputs. -/
theorem portEquations_of_two_le (rom : Vector FrameType 4) (T : SubtypeTables) (p : InPorts) (h : 2 ≤ p.inCnt.toNat) :
    portEquations rom T p =
      successPorts (recordOfBytes rom T p.inB0 p.inB1) (p.inB0.extractLsb' 2 2) (p.inB0.extractLsb' 4 4) := by
  simp only [portEquations, h, decide_true, if_true]
  rfl

/-- With a count below 2 the equations show the failure, whatever the byte inputs. -/
theorem portEquations_of_lt_two (rom : Vector FrameType 4) (T : SubtypeTables) (p : InPorts) (h : p.inCnt.toNat < 2) :
    portEquations rom T p = failurePorts := by
  simp only [portEquations, Nat.not_le.2 h, decide_false, Bool.false_eq_true, if_false]
  rfl

@[simp] theorem countCode_toNat (n : Nat) : (countCode n).toNat = min n 3 := by
  rw [countCode, BitVec.toNat_ofNat]
  omega

/-- On input ports that stand for a window of two bytes the equations show the record of those bytes. -/
theorem portEquations_of_two_bytes (rom : Vector FrameType 4) (T : SubtypeTables) {p : InPorts} {b0 b1 : Byte}
    {rest : List Byte} (hcnt : p.inCnt = countCode (b0 :: b1 :: rest).length) (h0 : p.inB0 = b0) (h1 : p.inB1 = b1) :
    portEquations rom T p =
      successPorts (recordOfBytes rom T b0 b1) (b0.extractLsb' 2 2) (b0.extractLsb' 4 4) := by
  have htwo : 2 ≤ p.inCnt.toNat := by
    rw [hcnt, countCode_toNat, List.length_cons, List.length_cons]
    omega
  rw [portEquations_of_two_le rom T p htwo, h0, h1]

/-- On input ports that stand for a shorter window the equations show the failure. -/
theorem portEquations_of_short_window (rom : Vector FrameType 4) (T : SubtypeTables) {p : InPorts} {w : List Byte}
    (hcnt : p.inCnt = countCode w.length) (hw : w.length < 2) : portEquations rom T p = failurePorts := by
  have hlt : p.inCnt.toNat < 2 := by
    rw [hcnt, countCode_toNat]
    omega
  exact portEquations_of_lt_two rom T p hlt

/-- A step on held inputs completes: with two bytes by the success on their record, with fewer by the failure. -/
theorem exists_step_of_held (s : State) (hh : s.hold = .held) :
    ∃ u, step s = .next u ∧
      ((∃ b0 b1 rest, windowOf s = b0 :: b1 :: rest ∧
          u = returnOk (recordOfBytes s.typeRom s.tables b0 b1) (b0.extractLsb' 2 2) (b0.extractLsb' 4 4)
            (applyInputs s)) ∨
        ((windowOf s).length < 2 ∧ u = raiseInsufficientData (applyInputs s))) := by
  rcases Nat.lt_or_ge (windowOf s).length 2 with hlen | hlen
  · exact ⟨_, step_of_short_window s hh hlen, .inr ⟨hlen, rfl⟩⟩
  · obtain ⟨b0, b1, rest, hw, _⟩ := window_of_two_le s hlen
    exact ⟨_, step_next_of_two_bytes s hh b0 b1 rest hw, .inl ⟨b0, b1, rest, hw, rfl⟩⟩

/-- After a step on held inputs the input ports stand for the window (rule R27). -/
theorem step_inPorts {s u : State} (hh : s.hold = .held) (hstep : step s = .next u) :
    u.inPorts =
      portInputs (windowOf s) (Config.freePortByte (2 * s.draws)) (Config.freePortByte (2 * s.draws + 1)) := by
  obtain ⟨v, hv, ⟨_, _, _, _, rfl⟩ | ⟨_, rfl⟩⟩ := exists_step_of_held s hh
  all_goals
    cases hstep.symm.trans hv
    rfl

/-- After a step on held inputs the outputs are the port equations of the inputs (rule R66). -/
theorem step_outPorts {s u : State} (hh : s.hold = .held) (hstep : step s = .next u) :
    u.outPorts = portEquations u.typeRom u.tables u.inPorts := by
  have hin := step_inPorts hh hstep
  obtain ⟨v, hv, ⟨b0, b1, rest, hw, rfl⟩ | ⟨hlen, rfl⟩⟩ := exists_step_of_held s hh
  · cases hstep.symm.trans hv
    rw [hin, hw, portEquations_of_two_bytes (rest := rest) _ _ rfl rfl rfl]
    rfl
  · cases hstep.symm.trans hv
    rw [hin, portEquations_of_short_window _ _ rfl hlen]
    rfl

/-- The ports of a success correspond to its result (rule R27). -/
theorem portsCorrespond_successPorts (b0 b1 : Byte) (rest : List Byte) (r : FrameControl) :
    portsCorrespond (b0 :: b1 :: rest) (.ok rest r) (successPorts r (b0.extractLsb' 2 2) (b0.extractLsb' 4 4)) := by
  simp [portsCorrespond, successPorts]

@[simp] theorem frameTypeOfCode_frameTypeCode (ft : FrameType) : frameTypeOfCode (frameTypeCode ft) = ft := by
  cases ft <;> rfl

@[simp] theorem frameSubTypeOfCode_frameSubTypeCode (fs : FrameSubType) :
    frameSubTypeOfCode (frameSubTypeCode fs) = some fs := by
  cases fs <;> rfl

theorem frameSubTypeList_length : frameSubTypeList.length = 42 := rfl

/-- A code stands for no member from the length of the list on (rule R58). -/
theorem frameSubTypeOfCode_eq_none_iff (c : BitVec 6) : frameSubTypeOfCode c = none ↔ 42 ≤ c.toNat := by
  rw [frameSubTypeOfCode, List.getElem?_eq_none_iff, frameSubTypeList_length]

theorem frameSubTypeCode_toNat_lt (fs : FrameSubType) : (frameSubTypeCode fs).toNat < 42 := by
  rw [← Nat.not_le, ← frameSubTypeOfCode_eq_none_iff, frameSubTypeOfCode_frameSubTypeCode]
  exact Option.some_ne_none fs

/-- A consumer reads a success back as its record (rule R26). -/
theorem recordOfPorts_successPorts (r : FrameControl) (t : BitVec 2) (s : BitVec 4) :
    recordOfPorts (successPorts r t s) = .ok r := by
  simp [recordOfPorts, successPorts]

/-- Under the source's TYPE_ROM the classified type shows its own code (rules R74 to R77). -/
theorem frameTypeCode_typeRomAt {rom : Vector FrameType 4} (h : SourceTypeRom rom) (t : BitVec 2) :
    frameTypeCode (typeRomAt rom t) = t := by
  obtain ⟨h0, h1, h2, h3⟩ := h
  rcases typeCode_cases t with rfl | rfl | rfl | rfl
  · rw [h0, frameTypeCode]
  · rw [h1, frameTypeCode]
  · rw [h2, frameTypeCode]
  · rw [h3, frameTypeCode]

end Sys2Proof.Laws

namespace Sys2Proof.Proofs

open Sys2Proof.Machine Sys2Proof.Laws

/-- Settles O40: the inputs are those of the window, and the outputs their equations. -/
theorem machineObeysThePortEquations : Obligations.MachineObeysThePortEquations := by
  intro st hold
  obtain ⟨u, hstep, _⟩ := exists_step_of_held st hold
  refine ⟨u, hstep, step_outPorts hold hstep, ?_, fun b hb => ?_, fun b hb => ?_⟩ <;> rw [step_inPorts hold hstep]
  · rfl
  · simp [portInputs, hb]
  · simp [portInputs, hb]

/-- Settles O41: the pseudocode and the equations make the same length check, and on two bytes both give their record. -/
theorem portsRealiseTheAbstractFunction : Obligations.PortsRealiseTheAbstractFunction := by
  intro rom T w p hcnt h0 h1
  rcases Nat.lt_or_ge w.length 2 with hlen | hlen
  · rw [portEquations_of_short_window rom T hcnt hlen, (decodeWindow_eq_err_iff rom T w).2 hlen]
    exact ⟨rfl, fun _ => rfl, fun _ => rfl⟩
  · match w with
    | [] | [_] => simp at hlen
    | b0 :: b1 :: rest =>
      rw [portEquations_of_two_bytes rom T hcnt (h0 b0 rfl) (h1 b1 rfl), decodeWindow_of_two_bytes]
      exact ⟨portsCorrespond_successPorts b0 b1 rest _, nofun, nofun⟩

/-- Settles O42: the counts 0 and 1 give the failure, and 2 and 3 the record of the two byte inputs. -/
theorem unavailableBytesHaveNoEffect : Obligations.UnavailableBytesHaveNoEffect := by
  intro rom T b0 b1
  have htwo := portEquations_of_two_le rom T ⟨b0, b1, 2#2⟩ (by simp)
  have hthree := portEquations_of_two_le rom T ⟨b0, b1, 3#2⟩ (by simp)
  refine ⟨?_, ?_, htwo.trans hthree.symm, by rw [htwo]; rfl, rfl⟩
  · exact portEquations_of_lt_two rom T _ (by simp)
  · exact portEquations_of_lt_two rom T _ (by simp)

/-- Settles O43: the ports are those of a success, where the member's code is in the list, or those of the failure. -/
theorem outputLevelsAreWellFormed : Obligations.OutputLevelsAreWellFormed := by
  intro st hold
  obtain ⟨u, hstep, ⟨b0, b1, rest, _, rfl⟩ | ⟨_, rfl⟩⟩ := exists_step_of_held st hold
  · exact ⟨_, hstep, rfl, rfl, nofun, frameSubTypeCode_toNat_lt _⟩
  · exact ⟨_, hstep, rfl, rfl, fun _ => ⟨rfl, rfl, rfl, rfl, rfl, rfl⟩, by simp [failurePorts]⟩

/-- Settles O44: the ports show the type bits as `raw_type`, and as `ftype` the code of the type that TYPE_ROM gives them. -/
theorem ftypeShowsTheTypeCode : Obligations.FtypeShowsTheTypeCode := by
  intro st b0 b1 rest hold hrom hw
  obtain ⟨u, hstep, _, hports⟩ := step_answer_of_two_bytes st hold b0 b1 rest hw
  have hftype : u.outPorts.ftype = b0.extractLsb' 2 2 := by
    rw [hports, successPorts_ftype]
    exact frameTypeCode_typeRomAt hrom _
  have hraw : u.outPorts.rawType = b0.extractLsb' 2 2 := by rw [hports]; rfl
  exact ⟨u, hstep, by rw [hports]; rfl, hftype, hraw.trans hftype.symm⟩

/-- Settles O45: each member stands in the list at its code, and no code from the list's length on has one. -/
theorem subtypeCodesAreTheListOrder : Obligations.SubtypeCodesAreTheListOrder :=
  ⟨frameSubTypeList_length, by decide, fun fs => List.mem_of_getElem? (frameSubTypeOfCode_frameSubTypeCode fs),
    frameSubTypeOfCode_frameSubTypeCode, fun c => (frameSubTypeOfCode_eq_none_iff c).symm⟩

/-- Settles O46: each port of a success reads back as its field of the record, and the failure has `ok` = 0. -/
theorem consumerReadsBackTheRecord : Obligations.ConsumerReadsBackTheRecord := by
  intro st hold
  obtain ⟨u, hstep, ⟨b0, b1, rest, _, rfl⟩ | ⟨_, rfl⟩⟩ := exists_step_of_held st hold
  · refine ⟨_, hstep, fun rem rec hresult => ?_, by simp⟩
    obtain ⟨-, rfl⟩ : _ ∧ recordOfBytes st.typeRom st.tables b0 b1 = rec := by simpa using hresult
    rw [returnOk_outPorts, recordOfPorts_successPorts]
  · exact ⟨_, hstep, by simp, fun _ => rfl⟩

end Sys2Proof.Proofs
end

section
/-!
PROOFS. The caller's side (spec 10_state.md sections 1 to 4, 20_memory.md, 95_test_vectors.md section 3; log 2): the window
after an advance, the invariant at power-up and after every step, and a walk over back-to-back instructions.
-/
namespace Sys2Proof.Laws

open Sys2Proof.Machine Sys2Proof.Safety Sys2Proof.Statements

/-- After a success on a window of two bytes the caller's next window is what follows them. -/
theorem windowOf_returnOk {s : State} {b0 b1 : Byte} {rest : List Byte} (hw : windowOf s = b0 :: b1 :: rest)
    (r : FrameControl) (t : BitVec 2) (c : BitVec 4) : windowOf (returnOk r t c s) = rest := by
  have htwo : 2 ≤ (windowOf s).length := by simp [hw]
  calc windowOf (returnOk r t c s) = (windowOf s).drop 2 := bytesFrom_add_two s.mem s.pos htwo
    _ = rest := by rw [hw]; rfl

/-- A step keeps the remainder of the last success equal to the next window: a success leaves its own remainder there, a
failure leaves no remainder, and a sample of moving ports leaves both. -/
theorem step_remainder {s u : State} (hs : RemainderIsNextWindow s) (hstep : step s = .next u) :
    RemainderIsNextWindow u := by
  intro rem rec hresult
  obtain ⟨_, b0, b1, rest, hw, rfl⟩ | ⟨_, _, rfl⟩ | ⟨_, rfl⟩ := step_cases s u hstep
  · obtain ⟨rfl, -⟩ : rest = rem ∧ _ = rec := by simpa [hw] using hresult
    exact (windowOf_returnOk (s := applyInputs s) hw ..).symm
  · simp at hresult
  · exact hs rem rec hresult

/-- A step keeps the record of the last success the last one collected: a success appends its own. -/
theorem step_collected {s u : State} (hs : LastRecordCollected s) (hstep : step s = .next u) :
    LastRecordCollected u := by
  intro rem rec hresult
  obtain ⟨_, _, _, _, _, rfl⟩ | ⟨_, _, rfl⟩ | ⟨_, rfl⟩ := step_cases s u hstep
  · obtain ⟨-, rfl⟩ : _ ∧ _ = rec := by simpa using hresult
    simp
  · simp at hresult
  · exact hs rem rec hresult

/-- The outputs at power-up are already the function of the inputs (rule R147). -/
theorem reset_outPorts :
    State.reset.outPorts = portEquations State.reset.typeRom State.reset.tables State.reset.inPorts :=
  (portEquations_of_lt_two _ _ State.reset.inPorts (by decide)).symm

/-- In a memory in canonical form nothing is listed at the address where the window ends. -/
theorem readByte_bytesFrom_end (m : Memory) (hm : memoryWf m) (a : Nat) :
    readByte m (a + (bytesFrom m a).length) = none := by
  induction m generalizing a with
  | nil => rfl
  | cons c m ih =>
    obtain ⟨k, c⟩ := c
    obtain ⟨hk, hm'⟩ := memoryWf_cons.1 hm
    rcases Nat.lt_trichotomy k a with hlt | rfl | hgt
    · rw [bytesFrom, if_pos hlt, readByte, if_neg (by omega)]
      exact ih hm' a
    · rw [bytesFrom, if_neg (Nat.lt_irrefl k), if_pos rfl, List.length_cons, readByte, if_neg (by omega),
        show k + ((bytesFrom m (k + 1)).length + 1) = k + 1 + (bytesFrom m (k + 1)).length by omega]
      exact ih hm' (k + 1)
    · rw [bytesFrom, if_neg (by omega), if_neg (by omega)]
      exact readByte_of_lt _ a (List.forall_mem_cons.2 ⟨hgt, fun x hx => hgt.trans (hk x hx)⟩)

/-- One step of a walk: the instruction at the position completes, its classification is collected, and the window is what
follows it. -/
theorem step_of_instruction {s : State} {i : Instr} {rest : List Byte} (hh : s.hold = .held)
    (hw : windowOf s = encodeBytes i ++ rest) :
    ∃ u, step s = .next u ∧ u.hold = .held ∧ u.typeRom = s.typeRom ∧ u.tables = s.tables ∧ u.pos = s.pos + 2 ∧
      windowOf u = rest ∧ u.records = s.records ++ [recordOfInstr s.typeRom s.tables i] := by
  have hstep := step_of_decode hh (hw ▸ decode_encodeBytes_append i rest)
  rw [exec_next] at hstep
  exact ⟨_, hstep, hh, rfl, rfl, rfl, windowOf_returnOk (s := applyInputs s) hw .., rfl⟩

/-- A walk over the bytes of a list of instructions, by induction on the list: all of them complete in order. -/
theorem stepsTo_of_stream (is : List Instr) (tail : List Byte) (s : State) (hh : s.hold = .held)
    (hw : windowOf s = is.flatMap encodeBytes ++ tail) :
    ∃ u, stepsTo is.length s u ∧ u.hold = .held ∧ u.pos = s.pos + 2 * is.length ∧ windowOf u = tail ∧
      u.records = s.records ++ is.map (recordOfInstr s.typeRom s.tables) := by
  induction is generalizing s with
  | nil => exact ⟨s, rfl, hh, rfl, hw, (List.append_nil _).symm⟩
  | cons i is ih =>
    rw [List.flatMap_cons, List.append_assoc] at hw
    obtain ⟨t, hstep, hhold, hrom, htables, hpos, hwindow, hrecords⟩ := step_of_instruction hh hw
    obtain ⟨u, hsteps, huhold, hupos, huwindow, hurecords⟩ := ih t hhold hwindow
    refine ⟨u, ⟨t, hstep, hsteps⟩, huhold, ?_, huwindow, ?_⟩
    · rw [hupos, hpos, List.length_cons]
      omega
    · rw [hurecords, hrecords, hrom, htables, List.map_cons, List.append_assoc, List.singleton_append]

end Sys2Proof.Laws

namespace Sys2Proof.Proofs

open Sys2Proof.Machine Sys2Proof.Laws

/-- Settles O51: a step keeps memory and hold, so each clause is the lemma of its own part. -/
theorem everyStepKeepsTheInvariant : Obligations.EveryStepKeepsTheInvariant := by
  intro st u hinv hstep
  obtain ⟨_, _, hmem, hhold⟩ := step_frame st u hstep
  exact {
    memory := hmem ▸ hinv.memory
    outputs := fun held => step_outPorts (hhold ▸ held) hstep
    remainder := step_remainder hinv.remainder hstep
    collected := step_collected hinv.collected hstep }

/-- Settles O50: nothing is listed and there is no result yet. -/
theorem invariantHoldsAtReset : Obligations.InvariantHoldsAtReset :=
  { memory := List.Pairwise.nil
    outputs := fun _ => reset_outPorts
    remainder := nofun
    collected := nofun }

/-- Settles O49: the tables are the spec's by definition, and a count of 0 gives the failure levels. -/
theorem resetState : Obligations.ResetState :=
  ⟨⟨rfl, rfl⟩, reset_outPorts, rfl⟩

/-- Settles O29: a success consumes 2 bytes and leaves the rest as the window; a failure consumes none. -/
theorem stepMakesTheCallersAdvance : Obligations.StepMakesTheCallersAdvance := by
  intro st hold
  obtain ⟨u, hstep, ⟨b0, b1, rest, hw, rfl⟩ | ⟨_, rfl⟩⟩ := exists_step_of_held st hold
  · refine ⟨_, hstep, rfl, fun rem rec hresult => ?_, by simp⟩
    obtain ⟨rfl, rfl⟩ : rest = rem ∧ recordOfBytes st.typeRom st.tables b0 b1 = rec := by simpa [hw] using hresult
    exact ⟨windowOf_returnOk (s := applyInputs st) hw .., rfl⟩
  · exact ⟨_, hstep, rfl, by simp, fun _ => ⟨rfl, rfl⟩⟩

/-- Settles O47: the bytes of the window are those at its addresses, and it ends where nothing is listed. -/
theorem windowIsTheRunOfListedBytes : Obligations.WindowIsTheRunOfListedBytes :=
  fun st hm => ⟨bytesFrom_get st.mem hm st.pos, readByte_bytesFrom_end st.mem hm st.pos⟩

/-- Settles O48: the walk takes one step an instruction, and then the window is the tail, which is too short. -/
theorem streamOfWordsIsDecodedInOrder : Obligations.StreamOfWordsIsDecodedInOrder := by
  intro is tail st hold htail hw
  obtain ⟨u, hsteps, hhold, hpos, hwindow, hrecords⟩ := stepsTo_of_stream is tail st hold hw
  have hlast := step_of_short_window u hhold (hwindow ▸ htail)
  exact ⟨u, _, hsteps, hpos, hwindow, hrecords, hlast, rfl, rfl, rfl⟩

end Sys2Proof.Proofs
end

section
/-!
PROOFS. The step by its kinds of input (spec 60_exceptions.md, 70_reset_and_hazards.md, 93_implementation_defined.md I6 and
I7), the protocol version (40_decode.md section 3), and what the spec's own tables give (30_encoding.md section 3).
-/
namespace Sys2Proof.Laws

open Sys2Proof.Machine

/-- A window that changes during the invocation is refused (rule R39). -/
theorem step_of_windowChanging {s : State} (hh : s.hold = .windowChanging) : step s = .refused .windowChanging := by
  simp only [step, hh]

/-- Inputs that move give a sample and no invocation (rule R152). -/
theorem step_of_portsMoving {s : State} (hh : s.hold = .portsMoving) : step s = .next (sampleMovingPorts s) := by
  simp only [step, hh]

/-- A window decodes only if it begins with two bytes, and the rest is what follows them. -/
theorem window_of_decode_eq_ok {w rest : List Byte} {i : Instr} (h : decode w = .ok (i, rest)) :
    ∃ b0 b1, w = b0 :: b1 :: rest := by
  match w with
  | [] | [_] => cases h
  | b0 :: b1 :: r =>
    obtain ⟨-, rfl⟩ : _ = i ∧ r = rest := by simpa using h
    exact ⟨b0, b1, rfl⟩

/-- The count of a window of two bytes is 2 when nothing follows them and 3 otherwise (rule R60). -/
theorem countCode_of_two_bytes (b0 b1 : Byte) (rest : List Byte) :
    countCode (b0 :: b1 :: rest).length = if rest = [] then 2#2 else 3#2 := by
  cases rest with
  | nil => rfl
  | cons b rest =>
    have hmin : min (b0 :: b1 :: b :: rest).length 3 = 3 := by simp
    rw [countCode, hmin, if_neg (List.cons_ne_nil b rest)]

/-- A field above the version is a field of the byte without its version. -/
theorem extractLsb'_of_two_le (b : Byte) (k n : Nat) : b.extractLsb' (2 + k) n = (b >>> 2).extractLsb' k n := by
  ext i hi
  simp [Nat.add_assoc]

/-- Byte 0's two low bits are the record's version and enter no other field (rule R68). -/
theorem recordOfBytes_eq_version_update (rom : Vector FrameType 4) (T : SubtypeTables) {b0 b0' : Byte} (b1 : Byte)
    (h : b0 >>> 2 = b0' >>> 2) :
    recordOfBytes rom T b0' b1 = { recordOfBytes rom T b0 b1 with protocolVersion := b0'.extractLsb' 0 2 } := by
  have htype : b0'.extractLsb' 2 2 = b0.extractLsb' 2 2 := by
    rw [extractLsb'_of_two_le b0' 0 2, ← h, ← extractLsb'_of_two_le b0 0 2]
  have hsubtype : b0'.extractLsb' 4 4 = b0.extractLsb' 4 4 := by
    rw [extractLsb'_of_two_le b0' 2 4, ← h, ← extractLsb'_of_two_le b0 2 4]
  rw [recordOfBytes, htype, hsubtype]
  rfl

/-- The cells where the spec's tables hold `Reserved` (D17). -/
theorem subtype_default_eq_reserved_iff : ∀ (t : BitVec 2) (s : BitVec 4),
    subtype subtypeTablesDefault (typeRomAt typeRomContents t) s = .reserved ↔
      (t, s) ∈ [(0#2, 7#4), (0#2, 15#4), (1#2, 0#4), (1#2, 1#4), (2#2, 13#4)] := by decide

/-- The cells where the spec's tables give `UnHandled` (D18). -/
theorem subtype_default_eq_unHandled_iff : ∀ (t : BitVec 2) (s : BitVec 4),
    subtype subtypeTablesDefault (typeRomAt typeRomContents t) s = .unHandled ↔
      t = 3#2 ∨ (t, s) ∈ [(0#2, 6#4), (0#2, 13#4), (0#2, 14#4)] := by decide

/-- A step on exactly two bytes, once the tables hold the type and the member of their cell. -/
theorem step_result_of_cell {s : State} {b0 b1 : Byte} {t : BitVec 2} {c : BitVec 4} {ft : FrameType}
    {fs : FrameSubType} (hh : s.hold = .held) (hw : windowOf s = [b0, b1]) (ht : b0.extractLsb' 2 2 = t)
    (hc : b0.extractLsb' 4 4 = c) (htype : typeRomAt s.typeRom t = ft) (hcell : subtype s.tables ft c = fs) :
    ∃ u, step s = .next u ∧ u.result = some (.ok [] ⟨b0.extractLsb' 0 2, ft, fs, b1⟩) := by
  obtain ⟨u, hstep, hresult, _⟩ := step_answer_of_two_bytes s hh b0 b1 [] hw
  rw [recordOfBytes, ht, hc, assembleRecord_of_type htype, hcell] at hresult
  exact ⟨u, hstep, hresult⟩

end Sys2Proof.Laws

namespace Sys2Proof.Proofs

open Sys2Proof.Machine Sys2Proof.Laws

/-- Settles O8: the window that decodes begins with two bytes, and applying it sets the three ports and the counter. -/
theorem stepRunsTheDecodedInstruction : Obligations.StepRunsTheDecodedInstruction := by
  intro st i rest hold hdecode
  obtain ⟨b0, b1, hw⟩ := window_of_decode_eq_ok hdecode
  refine ⟨b0, b1, hw, ?_⟩
  rw [step_of_decode hold hdecode, ← countCode_of_two_bytes b0 b1 rest, ← hw, applyInputs, portInputs, hw]
  rfl

/-- Settles O22: the contents of the three tables, by definition. -/
theorem defaultSubtypeTables : Obligations.DefaultSubtypeTables := ⟨rfl, rfl, rfl⟩

/-- Settles O23: the record's sub-type is the one that the spec's tables give for the word's two codes. -/
theorem reservedAndUnHandledCells : Obligations.ReservedAndUnHandledCells := by
  intro st b0 b1 rest hold htables hw
  obtain ⟨hrom, htables⟩ := htables
  obtain ⟨u, hstep, hresult, _⟩ := step_answer_of_two_bytes st hold b0 b1 rest hw
  rw [hrom, htables] at hresult
  rw [typeField_wordOfBytes, subtypeField_wordOfBytes]
  exact ⟨u, _, hstep, hresult, subtype_default_eq_reserved_iff .., subtype_default_eq_unHandled_iff ..⟩

/-- Settles O24: the codes in byte 0 of each window are those of a cell that the source fixes, and one byte is too few. -/
theorem sourceExamplesDecode : Obligations.SourceExamplesDecode := by
  intro st hold hrom hcells
  obtain ⟨hmgmt, hctrl, hdata, _⟩ := hrom
  obtain ⟨hbeacon, _, _, hrts, hqos, _⟩ := hcells
  refine ⟨fun hw => ?beacon, fun hw => ?rts, fun hw => ?qos, fun hw => ?short⟩
  case beacon => exact step_result_of_cell hold hw (by decide) (by decide) hmgmt hbeacon
  case rts => exact step_result_of_cell hold hw (by decide) (by decide) hctrl hrts
  case qos => exact step_result_of_cell hold hw (by decide) (by decide) hdata hqos
  case short =>
    obtain ⟨u, hstep, hresult, _⟩ := step_answer_of_short_window st hold (by simp [hw])
    exact ⟨u, hstep, hresult⟩

/-- Settles O31: held and moving inputs have a next state, and the third kind of input is refused by its name. -/
theorem onlyAChangingWindowIsRefused : Obligations.OnlyAChangingWindowIsRefused := by
  refine ⟨fun st r => ?_, fun st f => nomatch f⟩
  cases hh : st.hold with
  | windowChanging => simp [step_of_windowChanging hh, eq_comm]
  | portsMoving => simp [step_of_portsMoving hh]
  | held =>
    obtain ⟨u, hstep, _⟩ := exists_step_of_held st hh
    simp [hstep]

/-- Settles O32: the step is the sample of moving ports, an update of the ports and the counter. -/
theorem movingSampleObservesNothing : Obligations.MovingSampleObservesNothing :=
  fun _ hold => ⟨_, _, step_of_portsMoving hold⟩

/-- Settles O36: the frame of the step. -/
theorem stepKeepsMemoryAndTables : Obligations.StepKeepsMemoryAndTables := by
  intro st u hstep
  obtain ⟨hrom, htables, hmem, hhold⟩ := step_frame st u hstep
  exact ⟨hmem, fun a => by rw [hmem], hrom, htables, hhold⟩

/-- Settles O37: the failure is an update of the ports, the result and the counter, and the next invocation finds the tables
and the position as they were. -/
theorem failureLeavesNothingBehind : Obligations.FailureLeavesNothingBehind := by
  intro st m hold hlen
  obtain ⟨v, hv, hresult⟩ := step_result_eq_decodeWindow { raiseInsufficientData (applyInputs st) with mem := m } hold
  exact ⟨_, v, step_of_short_window st hold hlen, rfl, hv, hresult⟩

/-- Settles O38: the two bytes 0 agree above the version, so the two records differ by an update of it. -/
theorem versionPassesThroughUnchecked : Obligations.VersionPassesThroughUnchecked := by
  intro s1 s2 b0 b0' b1 rest hold1 hold2 hrom htables hw1 hw2 hbyte
  obtain ⟨u1, hstep1, hresult1, _⟩ := step_answer_of_two_bytes s1 hold1 b0 b1 rest hw1
  obtain ⟨u2, hstep2, hresult2, _⟩ := step_answer_of_two_bytes s2 hold2 b0' b1 rest hw2
  rw [← hrom, ← htables] at hresult2
  exact ⟨u1, u2, _, _, hstep1, hstep2, hresult1, hresult2, rfl, rfl, recordOfBytes_eq_version_update _ _ b1 hbyte⟩

end Sys2Proof.Proofs
end
